-- ==== Sys2Proof/Word.lean ====
section
/-! DEFINITION. The bit-vector widths that the spec itself treats as bits: bytes of frames, payloads and
configuration entries (R173, R180, R183), 16-bit generations, details, digests and CRCs (R83, R44, R166, R174),
and the 32-bit uptime (R158). Counts, times and scores are natural numbers. -/

namespace Sys2Proof

/-- One byte of a frame, a payload or a configuration entry. -/
abbrev Byte := BitVec 8

/-- A 16-bit value: a generation, a detail, a digest, a CRC. -/
abbrev Half := BitVec 16

/-- A value of uptime, 0 to 4,294,967,295 (R158). -/
abbrev Uptime := BitVec 32

end Sys2Proof
end

