-- ==== Sys2Proof/Machine/Crc.lean ====
section
/-! DEFINITION. The CRC-16 of frames and of the configuration digest (R174, R166): polynomial 0x1021, initial
value 0xFFFF, each byte from its most significant bit, no reflection and no final inversion. The two bytes of a
16-bit value, low byte first, stand here too (R180). -/

namespace Sys2Proof.Machine

/-- One bit of the CRC register: shift left, and add the polynomial when the bit shifted out was 1. -/
def crcBit (c : Half) : Half := if c.msb then (c <<< 1) ^^^ 0x1021#16 else c <<< 1

/-- One byte taken into the CRC register, most significant bit first. -/
def crcByte (c : Half) (b : Byte) : Half := Nat.repeat crcBit 8 (c ^^^ (b.setWidth 16 <<< 8))

/-- The CRC-16 of a list of bytes (R174). -/
def crc16 (bytes : List Byte) : Half := bytes.foldl crcByte 0xFFFF#16

/-- The low byte of a 16-bit value. -/
def lowByte (h : Half) : Byte := h.setWidth 8

/-- The high byte of a 16-bit value. -/
def highByte (h : Half) : Byte := (h >>> 8).setWidth 8

/-- A 16-bit value as it is sent: low byte first (R180). -/
def halfBytes (h : Half) : List Byte := [lowByte h, highByte h]

/-- The 16-bit value of two bytes sent low byte first. -/
def halfOf (lo hi : Byte) : Half := (hi.setWidth 16 <<< 8) ||| lo.setWidth 16

/-- A number sent in two bytes, low byte first. -/
def natBytes (n : Nat) : List Byte := halfBytes (BitVec.ofNat 16 n)

/-- A 32-bit value as it is sent: four bytes, lowest first (R180). -/
def uptimeBytes (u : Uptime) : List Byte :=
  [u.setWidth 8, (u >>> 8).setWidth 8, (u >>> 16).setWidth 8, (u >>> 24).setWidth 8]

end Sys2Proof.Machine
end

