-- ==== Sys2Proof/Syntax.lean ====
section
/-! DEFINITION. The commands of the FM412: one constructor of Instr per row of spec/opcode_table.json, in the
table's order, with the operands the spec's rules give the row. The small sets of names the operands range over
stand first. -/

namespace Sys2Proof

/-- The four link ports (Table 1-5). -/
inductive Port where
  | front | rear | pack | ride
  deriving DecidableEq, Repr, Inhabited

/-- The two drive ports (Terms: "drive port"), and with them the two drive permits FRONT_EN and REAR_EN. -/
inductive DrivePort where
  | front | rear
  deriving DecidableEq, Repr, Inhabited

/-- The eleven drivetrain elements E0 to E10 (Table 1-6). -/
inductive Element where
  | frontPower | frontMotor | frontCtl | rearPower | rearMotor | rearCtl
  | packCells | packCtl | throttle | brake | rideCtl
  deriving DecidableEq, Repr, Inhabited

/-- The eight fault classes C0 to C7 (Table 1-8). -/
inductive FaultClass where
  | overcurrent | overtemperature | sensorImplausible | supplyRange | stall
  | lossOfContact | frameIntegrity | adoptionLapse
  deriving DecidableEq, Repr, Inhabited

/-- The six fault lines FL0 to FL5. -/
inductive FaultLine where
  | fl0 | fl1 | fl2 | fl3 | fl4 | fl5
  deriving DecidableEq, Repr, Inhabited

/-- The two trial slots (R132). -/
inductive TrialSlot where
  | primary | nested
  deriving DecidableEq, Repr, Inhabited

/-- The discard errors of the row FRAME_DISCARD (R176); the fifth error, GAP, is the row GAP_DISCARD. -/
inductive FrameError where
  | stop | length | crc | overlap
  deriving DecidableEq, Repr, Inhabited

/-- The levels that one readback sample shows on FRB and on RRB, true for high (R105). -/
structure Readback where
  frb : Bool
  rrb : Bool
  deriving DecidableEq, Repr

/-- A third readback mismatch in a row (R106): the drive permit whose counter it brings to 3, and the level that the
other permit's readback shows in the same sample (R105). -/
structure ThirdMismatch where
  drive : DrivePort
  other : Bool
  deriving DecidableEq, Repr

/-- The commands. A request carries the port whose controller sends it and the payload fields of Table 11.5 as
they stand in the frame, so that a value outside its field's range can be sent (R180: "passed to the owning
block, which refuses it as its checks lay down"). An expiry names its timer, a sample its input and level. -/
inductive Instr where
  /-- READ_STATUS (R181). -/
  | readStatus (p : Port) (page : Byte)
  /-- READ_ENVELOPE (R101). -/
  | readEnvelope (p : Port)
  /-- READ_ELEMENT (R18). -/
  | readElement (p : Port) (element : Byte)
  /-- READ_FAULT (R40). -/
  | readFault (p : Port) (position : Byte)
  /-- READ_RETAINED (R157). -/
  | readRetained (p : Port) (element : Byte)
  /-- READ_NOTICE (R179). -/
  | readNotice (p : Port)
  /-- READ_CONFIG (R165). -/
  | readConfig (p : Port) (sect index : Byte)
  /-- CHECK_IN (R59). -/
  | checkIn (p : Port)
  /-- REPORT (R44, R47): the detail is present in the four-byte form. -/
  | report (p : Port) (element cls : Byte) (detail : Option Half)
  /-- SET_FLOOR (R71). -/
  | setFloor (p : Port) (profile : Byte)
  /-- ADOPT (R95). -/
  | adopt (p : Port) (generation : Half)
  /-- RELEASE (R117). -/
  | release (p : Port) (element : Byte)
  /-- CONSENT (R121). -/
  | consent (p : Port) (element : Byte)
  /-- VETO (R122). -/
  | veto (p : Port) (element : Byte)
  /-- START (R168). -/
  | start (p : Port) (digest : Half)
  /-- WRITE_CONFIG (R164). -/
  | writeConfig (p : Port) (sect index : Byte) (entry : List Byte)
  /-- SERVICE_ARM (R154). -/
  | serviceArm (p : Port)
  /-- SERVICE_CLEAR (R155): an element, or 0xFF for all eleven. -/
  | serviceClear (p : Port) (which : Byte)
  /-- UNKNOWN_REQUEST (R175): a well-formed frame with an unknown code, or a length not allowed for its code. -/
  | unknownRequest (p : Port) (code : Byte) (payload : List Byte)
  /-- FRAME_DISCARD (R176). -/
  | frameDiscard (p : Port) (kind : FrameError)
  /-- GAP_DISCARD (R174). -/
  | gapDiscard (p : Port)
  /-- REPLY_COMPLETE (R173). -/
  | replyComplete (p : Port)
  /-- POWER_ON_RESET (R161), with the strap levels that it samples. -/
  | powerOnReset (cfgsel1 cfgsel0 : Bool)
  /-- KEY_CYCLE_RESET (R162). -/
  | keyCycleReset
  /-- RESET_END (R160). -/
  | resetEnd
  /-- DECAY_EXPIRY (R36), of the record of one element and class. -/
  | decayExpiry (e : Element) (c : FaultClass)
  /-- CHECK_IN_DEADLINE_EXPIRY (R60). -/
  | checkInDeadlineExpiry (p : Port)
  /-- DWELL_EXPIRY (R89). -/
  | dwellExpiry
  /-- ADOPTION_DEADLINE_EXPIRY (R97). -/
  | adoptionDeadlineExpiry (d : DrivePort)
  /-- BALLOT_WINDOW_EXPIRY (R124). -/
  | ballotWindowExpiry
  /-- TRIAL_EXPIRY (R140), of the trial in one slot. -/
  | trialExpiry (slot : TrialSlot)
  /-- START_WINDOW_EXPIRY (R170). -/
  | startWindowExpiry
  /-- INTEGRITY_CHECK_EXPIRY (R167). -/
  | integrityCheckExpiry
  /-- LINE_QUALIFY (R52). -/
  | lineQualify (l : FaultLine)
  /-- LINE_UNQUALIFY (R51). -/
  | lineUnqualify (l : FaultLine)
  /-- LINE_EDGE (R53). -/
  | lineEdge (l : FaultLine)
  /-- READBACK_MISMATCH (R106), with the other permit's readback of the same sample. -/
  | readbackMismatch (m : ThirdMismatch)
  /-- SVC_DEASSERTED (R156). -/
  | svcDeasserted
  /-- LINE_SAMPLE (R51, R53), with the level sampled (true is high). -/
  | lineSample (l : FaultLine) (high : Bool)
  /-- READBACK_SAMPLE (R105, R106): one sample of FRB and RRB together. `first` says whose FAILSAFE request is taken
  first when both counters reach 3 on this sample (R108). -/
  | readbackSample (first : DrivePort) (levels : Readback)
  /-- SVC_ASSERTED (R153). -/
  | svcAsserted
  /-- MILLISECOND_TICK (R158). -/
  | millisecondTick
  /-- CONFIGURATION_IMAGE_CORRUPTION (R167): one byte of the 236 of the stored image takes another value. -/
  | configurationImageCorruption (offset : Fin 236) (value : Byte)
  /-- FRAME_START (R173), with the byte that arrives. -/
  | frameStart (p : Port) (byte : Byte)
  deriving DecidableEq, Repr

end Sys2Proof
end

