-- ==== Sys2Proof/Machine/Catalogue.lean ====
section
/-! DEFINITION. The request catalogue of Table 11.5 (R180): each request's code and the payload lengths that the
link port accepts for it, and the layout of a request frame (R174). -/

namespace Sys2Proof.Machine

/-- The payload lengths that Table 11.5 allows for a code, or none for a code that is not in the table. -/
def codeLengths (code : Byte) : Option (List Nat) :=
  match code.toNat with
  | 0x10 => some [1]
  | 0x11 => some [0]
  | 0x12 => some [1]
  | 0x13 => some [1]
  | 0x14 => some [1]
  | 0x15 => some [0]
  | 0x16 => some [2]
  | 0x20 => some [0]
  | 0x21 => some [2, 4]
  | 0x22 => some [1]
  | 0x23 => some [2]
  | 0x30 => some [1]
  | 0x31 => some [1]
  | 0x32 => some [1]
  | 0x40 => some [2]
  | 0x41 => some [3, 4, 5, 6, 7, 8, 9]
  | 0x48 => some [0]
  | 0x49 => some [1]
  | _ => none

/-- The code is in Table 11.5 (R175, step 1). -/
def codeKnown (code : Byte) : Bool := (codeLengths code).isSome

/-- Table 11.5 allows this payload length for the code (R175, step 2). -/
def lengthAllowed (code : Byte) (n : Nat) : Bool :=
  match codeLengths code with
  | some ns => ns.contains n
  | none => false

/-- The greatest payload length of a frame (R174). -/
def maxPayload : Nat := 24

/-- A request frame: code, length, payload, and the CRC over these, low byte first (R174). -/
def requestFrame (code : Byte) (payload : List Byte) : List Byte :=
  let body := code :: BitVec.ofNat 8 payload.length :: payload
  body ++ halfBytes (crc16 body)

/-- The code and payload of a request command; none for a command that is no request. -/
def requestOf : Instr → Option (Byte × List Byte)
  | .readStatus _ page => some (0x10, [page])
  | .readEnvelope _ => some (0x11, [])
  | .readElement _ e => some (0x12, [e])
  | .readFault _ n => some (0x13, [n])
  | .readRetained _ e => some (0x14, [e])
  | .readNotice _ => some (0x15, [])
  | .readConfig _ k n => some (0x16, [k, n])
  | .checkIn _ => some (0x20, [])
  | .report _ e c none => some (0x21, [e, c])
  | .report _ e c (some d) => some (0x21, [e, c] ++ halfBytes d)
  | .setFloor _ f => some (0x22, [f])
  | .adopt _ g => some (0x23, halfBytes g)
  | .release _ e => some (0x30, [e])
  | .consent _ e => some (0x31, [e])
  | .veto _ e => some (0x32, [e])
  | .start _ d => some (0x40, halfBytes d)
  | .writeConfig _ k n entry => some (0x41, k :: n :: entry)
  | .serviceArm _ => some (0x48, [])
  | .serviceClear _ e => some (0x49, [e])
  | .unknownRequest _ code payload => some (code, payload)
  | .frameDiscard _ _ => none
  | .gapDiscard _ => none
  | .replyComplete _ => none
  | .powerOnReset _ _ => none
  | .keyCycleReset => none
  | .resetEnd => none
  | .decayExpiry _ _ => none
  | .checkInDeadlineExpiry _ => none
  | .dwellExpiry => none
  | .adoptionDeadlineExpiry _ => none
  | .ballotWindowExpiry => none
  | .trialExpiry _ => none
  | .startWindowExpiry => none
  | .integrityCheckExpiry => none
  | .lineQualify _ => none
  | .lineUnqualify _ => none
  | .lineEdge _ => none
  | .readbackMismatch _ => none
  | .svcDeasserted => none
  | .lineSample _ _ => none
  | .readbackSample _ _ => none
  | .svcAsserted => none
  | .millisecondTick => none
  | .configurationImageCorruption _ _ => none
  | .frameStart _ _ => none

end Sys2Proof.Machine
end

