-- ==== Sys2Proof/WellFormed.lean ====
section
/-! DEFINITION. Which terms of Instr are commands that the link or the device can present. Every operand but
two is well formed by its type. A WRITE_CONFIG carries 3 to 9 payload bytes (Table 11.5), and an UNKNOWN_REQUEST
is a frame of at most 24 payload bytes (R174) whose code is unknown or whose length its code does not allow
(R175). exec has a meaning for the other terms too. -/

namespace Sys2Proof

/-- The command is one that Table 11.5 and R175 admit. -/
def Instr.wellFormed : Instr → Bool
  | .writeConfig _ _ _ entry => Machine.lengthAllowed 0x41 (entry.length + 2)
  | .unknownRequest _ code payload =>
      decide (payload.length ≤ Machine.maxPayload) && !Machine.lengthAllowed code payload.length
  | _ => true

end Sys2Proof
end

