-- ==== Sys2Proof/Decode.lean ====
section
/-! DEFINITION. Sys2Proof.decodeTableWord, which answers none: spec/opcode_table.json gives no row any bits. And the
decoding the spec does give: the bytes of a request frame (R174, R175, Table 11.5) into the command they spell. -/

namespace Sys2Proof

/-- The command that a word spells by the opcode table's bits: none, since the table gives no row any bits. -/
def decodeTableWord (_nbits _w : Nat) : Option Instr := none

/-- The request that a checked frame's code and payload spell on a port (R175, Table 11.5). A code that is not
in the table, or a length it does not allow, is an UNKNOWN_REQUEST. -/
def decodeRequest (p : Port) (code : Byte) (payload : List Byte) : Instr :=
  match code.toNat, payload with
  | 0x10, [page] => .readStatus p page
  | 0x11, [] => .readEnvelope p
  | 0x12, [e] => .readElement p e
  | 0x13, [n] => .readFault p n
  | 0x14, [e] => .readRetained p e
  | 0x15, [] => .readNotice p
  | 0x16, [k, n] => .readConfig p k n
  | 0x20, [] => .checkIn p
  | 0x21, [e, c] => .report p e c none
  | 0x21, [e, c, lo, hi] => .report p e c (some (Machine.halfOf lo hi))
  | 0x22, [f] => .setFloor p f
  | 0x23, [lo, hi] => .adopt p (Machine.halfOf lo hi)
  | 0x30, [e] => .release p e
  | 0x31, [e] => .consent p e
  | 0x32, [e] => .veto p e
  | 0x40, [lo, hi] => .start p (Machine.halfOf lo hi)
  | 0x41, k :: n :: entry =>
      if Machine.lengthAllowed 0x41 (entry.length + 2) then .writeConfig p k n entry
      else .unknownRequest p code payload
  | 0x48, [] => .serviceArm p
  | 0x49, [e] => .serviceClear p e
  | _, _ => .unknownRequest p code payload

/-- The command that the bytes of a frame on a port spell, each byte with a good stop bit: a LENGTH discard at a
length byte above 24, a CRC discard at a mismatch, otherwise the request (R174 to R176). None while the frame is
unfinished, or when bytes follow it. -/
def decodeFrame (p : Port) (bytes : List Byte) : Option Instr :=
  match bytes with
  | code :: len :: rest =>
      if Machine.maxPayload < len.toNat then some (.frameDiscard p .length)
      else
        let payload := rest.take len.toNat
        match rest.drop len.toNat with
        | [lo, hi] =>
            if Machine.crc16 (code :: len :: payload) = Machine.halfOf lo hi then
              some (decodeRequest p code payload)
            else some (.frameDiscard p .crc)
        | _ => none
  | _ => none

/-- The frame of a request command (R174); none for a command that is no request. -/
def encodeFrame (i : Instr) : Option (List Byte) :=
  (Machine.requestOf i).map fun r => Machine.requestFrame r.1 r.2

end Sys2Proof
end

