-- ==== Sys2Proof/Config.lean ====
section
/-! DEFINITION. The free values: constants without a body, of which no proof can know more than that they are of
their type. They stand where the spec gives a command its effect but not one value in it. Both concern a LINE
entry that a corruption of the image's storage (R167) has left with a coded value outside its range, which
WRITE_CONFIG refuses (R183): the spec says the entry is read back as held, and not what the line then reports
(assumption 6). DESIGN CHOICE, safe: a value of the type is all that is known. -/

namespace Sys2Proof

/-- The element that a line names whose corrupted entry holds an element code above 10 (free). -/
opaque Config.strayElement : Byte → Element

/-- The class that a line names whose corrupted entry holds a class code above 4 (free). -/
opaque Config.strayClass : Byte → FaultClass

end Sys2Proof
end

