-- ==== Sys2Proof/Machine/Types.lean ====
section
/-! DEFINITION. The types of the machine's data, each after the table of the spec that lists its parts, and the
families of one value per port, per drive port, per element and per line. -/

namespace Sys2Proof.Machine

/-! ## Families -/

/-- One value for each link port. -/
structure PerPort (α : Type) where
  front : α
  rear : α
  pack : α
  ride : α
  deriving DecidableEq, Repr

/-- The value for a port. -/
def PerPort.get {α : Type} (v : PerPort α) : Port → α
  | .front => v.front
  | .rear => v.rear
  | .pack => v.pack
  | .ride => v.ride

/-- The family with one port's value replaced. -/
def PerPort.set {α : Type} (v : PerPort α) (p : Port) (a : α) : PerPort α :=
  match p with
  | .front => { v with front := a }
  | .rear => { v with rear := a }
  | .pack => { v with pack := a }
  | .ride => { v with ride := a }

/-- Every port's value through a function. -/
def PerPort.map {α β : Type} (f : α → β) (v : PerPort α) : PerPort β :=
  { front := f v.front, rear := f v.rear, pack := f v.pack, ride := f v.ride }

/-- The same value for every port. -/
def PerPort.const {α : Type} (a : α) : PerPort α := { front := a, rear := a, pack := a, ride := a }

/-- The four ports in the order FRONT, REAR, PACK, RIDE. -/
def allPorts : List Port := [.front, .rear, .pack, .ride]

/-- One value for each drive port. -/
structure PerDrive (α : Type) where
  front : α
  rear : α
  deriving DecidableEq, Repr

/-- The value for a drive port. -/
def PerDrive.get {α : Type} (v : PerDrive α) : DrivePort → α
  | .front => v.front
  | .rear => v.rear

/-- The family with one drive port's value replaced. -/
def PerDrive.set {α : Type} (v : PerDrive α) (d : DrivePort) (a : α) : PerDrive α :=
  match d with
  | .front => { v with front := a }
  | .rear => { v with rear := a }

/-- One value for each element. -/
structure PerElement (α : Type) where
  frontPower : α
  frontMotor : α
  frontCtl : α
  rearPower : α
  rearMotor : α
  rearCtl : α
  packCells : α
  packCtl : α
  throttle : α
  brake : α
  rideCtl : α
  deriving DecidableEq, Repr

/-- The value for an element. -/
def PerElement.get {α : Type} (v : PerElement α) : Element → α
  | .frontPower => v.frontPower
  | .frontMotor => v.frontMotor
  | .frontCtl => v.frontCtl
  | .rearPower => v.rearPower
  | .rearMotor => v.rearMotor
  | .rearCtl => v.rearCtl
  | .packCells => v.packCells
  | .packCtl => v.packCtl
  | .throttle => v.throttle
  | .brake => v.brake
  | .rideCtl => v.rideCtl

/-- The family with one element's value replaced. -/
def PerElement.set {α : Type} (v : PerElement α) (e : Element) (a : α) : PerElement α :=
  match e with
  | .frontPower => { v with frontPower := a }
  | .frontMotor => { v with frontMotor := a }
  | .frontCtl => { v with frontCtl := a }
  | .rearPower => { v with rearPower := a }
  | .rearMotor => { v with rearMotor := a }
  | .rearCtl => { v with rearCtl := a }
  | .packCells => { v with packCells := a }
  | .packCtl => { v with packCtl := a }
  | .throttle => { v with throttle := a }
  | .brake => { v with brake := a }
  | .rideCtl => { v with rideCtl := a }

/-- The family of a function of the element. -/
def PerElement.of {α : Type} (f : Element → α) : PerElement α :=
  { frontPower := f .frontPower, frontMotor := f .frontMotor, frontCtl := f .frontCtl, rearPower := f .rearPower,
    rearMotor := f .rearMotor, rearCtl := f .rearCtl, packCells := f .packCells, packCtl := f .packCtl,
    throttle := f .throttle, brake := f .brake, rideCtl := f .rideCtl }

/-- The eleven elements in order, E0 to E10. -/
def allElements : List Element :=
  [.frontPower, .frontMotor, .frontCtl, .rearPower, .rearMotor, .rearCtl, .packCells, .packCtl, .throttle, .brake,
    .rideCtl]

/-- One value for each fault line. -/
structure PerLine (α : Type) where
  fl0 : α
  fl1 : α
  fl2 : α
  fl3 : α
  fl4 : α
  fl5 : α
  deriving DecidableEq, Repr

/-- The value for a line. -/
def PerLine.get {α : Type} (v : PerLine α) : FaultLine → α
  | .fl0 => v.fl0
  | .fl1 => v.fl1
  | .fl2 => v.fl2
  | .fl3 => v.fl3
  | .fl4 => v.fl4
  | .fl5 => v.fl5

/-- The family with one line's value replaced. -/
def PerLine.set {α : Type} (v : PerLine α) (l : FaultLine) (a : α) : PerLine α :=
  match l with
  | .fl0 => { v with fl0 := a }
  | .fl1 => { v with fl1 := a }
  | .fl2 => { v with fl2 := a }
  | .fl3 => { v with fl3 := a }
  | .fl4 => { v with fl4 := a }
  | .fl5 => { v with fl5 := a }

/-- The same value for every line. -/
def PerLine.const {α : Type} (a : α) : PerLine α := { fl0 := a, fl1 := a, fl2 := a, fl3 := a, fl4 := a, fl5 := a }

/-- A set of ports (R180, "port set"). -/
abbrev PortSet := PerPort Bool

/-! ## Elements and faults -/

/-- The five health states (R3, Table 1-7). -/
inductive Health where
  | inService | degraded | isolated | trial | lockedOut
  deriving DecidableEq, Repr, Inhabited

/-- The four groups (R1). -/
inductive Group where
  | front | rear | supply | rider
  deriving DecidableEq, Repr, Inhabited

/-- The six origins of fault reports (Section 1.8.4). -/
inductive Origin where
  | front | rear | pack | ride | lines | monitor
  deriving DecidableEq, Repr, Inhabited

/-- A set of origins (R21). -/
structure OriginSet where
  front : Bool
  rear : Bool
  pack : Bool
  ride : Bool
  lines : Bool
  monitor : Bool
  deriving DecidableEq, Repr

/-- The action of a fault class (R23). -/
inductive FaultAction where
  | isolate | derate
  deriving DecidableEq, Repr, Inhabited

/-- The state of a fault record (R21). -/
inductive RecordState where
  | suspect | confirmed
  deriving DecidableEq, Repr, Inhabited

/-- A timer: none while it does not exist or does not run, otherwise its remaining time in ms. A timer that the
part state FAILSAFE freezes keeps its remaining time (R159, R111). -/
abbrev Timer := Option Nat

/-- A fault record (R21, Table 2.1; the absent fields, R22). -/
structure FaultRecord where
  element : Element
  cls : FaultClass
  state : RecordState
  score : Nat
  origins : OriginSet
  reports : Nat
  firstAt : Uptime
  lastAt : Uptime
  confirmedAt : Option Uptime
  detail : Option Half
  line : Option FaultLine
  decay : Timer
  deriving DecidableEq, Repr

/-- A fault report (Chapter 2, "Taking a Fault Report"; Table 3.1). `startVote` marks the start-vote report (R34). -/
structure FaultReport where
  element : Element
  cls : FaultClass
  origin : Origin
  detail : Option Half
  line : Option FaultLine
  startVote : Bool
  deriving DecidableEq, Repr

/-- The result of taking a fault report (R30). -/
inductive ReportResult where
  | suspect | confirmed | notRecorded
  deriving DecidableEq, Repr, Inhabited

/-- The Fault Table: the records, oldest first, and the overflow flag (R20, R29). -/
structure FaultTable where
  records : List FaultRecord
  overflow : Bool
  deriving DecidableEq, Repr

/-- The Element Map: health and remaining recovery budget of each element (Chapter 1). -/
structure ElementMap where
  health : PerElement Health
  budget : PerElement Nat
  deriving DecidableEq, Repr

/-- The filter state of a fault line: qualification and run count of a LEVEL line (R51), reference level of an
EDGE line (R53; true is high). -/
structure LineFilter where
  qualified : Bool
  run : Nat
  reference : Option Bool
  deriving DecidableEq, Repr

/-! ## Configuration entries (Table 10.4) -/

/-- The eight sections of the configuration image. -/
inductive Sect where
  | cls | element | group | profile | modeRule | line | port | glob
  deriving DecidableEq, Repr, Inhabited

/-- The eight profiles P0 to P7 (Table 1-9). -/
inductive ProfileId where
  | normal | eco | rearOnly | frontOnly | noRegen | limp | walk | safeStop
  deriving DecidableEq, Repr, Inhabited

/-- The parameters of a fault class (R23, Table 2.2); the decay interval is in ms, 0 for none. -/
structure ClassParams where
  weight : Nat
  confirm : Nat
  clear : Nat
  decay : Nat
  corroboration : Nat
  action : FaultAction
  retained : Bool
  deriving DecidableEq, Repr

/-- An ELEMENT entry: reporting rights (R46), configured consent ports (R116), configured budget (R14). -/
structure ElementConfig where
  rights : PortSet
  consent : PortSet
  budget : Nat
  deriving DecidableEq, Repr

/-- The six limit fields of a profile, the target and the envelope (R64, Table 4.1). -/
structure Limits where
  frontCap : Nat
  rearCap : Nat
  speedCap : Nat
  regen : Bool
  frontDrive : Bool
  rearDrive : Bool
  deriving DecidableEq, Repr

/-- The category that a mode rule requires (Table 4.4). -/
inductive Required where
  | ok | impaired | out | notOk
  deriving DecidableEq, Repr, Inhabited

/-- A mode rule (R67, Table 4.3). -/
structure ModeRule where
  valid : Bool
  care : PerElement Bool
  category : PerElement Required
  target : ProfileId
  deriving DecidableEq, Repr

/-- The mode of a fault line (R49). -/
inductive LineMode where
  | level | edge
  deriving DecidableEq, Repr, Inhabited

/-- A LINE entry (R49, Table 3.5). `low` is the polarity: false for ACTIVE_HIGH or RISING, true for ACTIVE_LOW or
FALLING. The sample interval is in quarters of a millisecond. -/
structure LineConfig where
  enabled : Bool
  mode : LineMode
  low : Bool
  filter : Nat
  interval : Nat
  element : Element
  cls : FaultClass
  deriving DecidableEq, Repr

/-- The GLOBAL entry, in ms: start window (R170), dwell time (R88), adoption deadline (R93), ballot window (R115). -/
structure GlobalConfig where
  startWindow : Nat
  dwell : Nat
  adoption : Nat
  ballot : Nat
  deriving DecidableEq, Repr

/-! ## The Envelope Unit and the Permit Stage -/

/-- An envelope value: the six limit fields and the severity (R82). -/
structure Envelope where
  limits : Limits
  severity : Nat
  deriving DecidableEq, Repr

/-- The hard cuts applied (Table 4.8). -/
structure Cuts where
  front : Bool
  rear : Bool
  supply : Bool
  deriving DecidableEq, Repr

/-- The target record (R73, Table 4.7): its six limit fields and severity are `env`; `matched` lists the matching
mode rules by number, in order. -/
structure Target where
  env : Envelope
  matched : List Nat
  floors : PerPort (Option ProfileId)
  overflowDemand : Bool
  cuts : Cuts
  deriving DecidableEq, Repr

/-- The adoption record of a drive port (R92, Table 5.2). -/
structure AdoptionRecord where
  lastAdopted : Option Half
  pending : Bool
  deadline : Timer
  latch : Bool
  deriving DecidableEq, Repr

/-- The Envelope Unit (Chapters 4 and 5). -/
structure EnvelopeUnit where
  floors : PerPort (Option ProfileId)
  target : Target
  envelope : Envelope
  generation : Half
  dwell : Timer
  adoption : PerDrive AdoptionRecord
  deriving DecidableEq, Repr

/-- The four output levels (R102); true is asserted, which is high. -/
structure Outputs where
  frontEn : Bool
  rearEn : Bool
  regenEn : Bool
  packTrip : Bool
  deriving DecidableEq, Repr

/-- The Permit Stage: output levels and readback mismatch counters (R102, R106). -/
structure PermitStage where
  outputs : Outputs
  mismatch : PerDrive Nat
  deriving DecidableEq, Repr

/-! ## The Recovery Unit and the Retained Lockout Map -/

/-- The open ballot (R114, Table 7.1). -/
structure Ballot where
  element : Element
  requester : Port
  consent : PortSet
  answered : PortSet
  openedAt : Uptime
  window : Nat
  deriving DecidableEq, Repr

/-- The state of a trial record (R133). -/
inductive TrialState where
  | running | suspended
  deriving DecidableEq, Repr, Inhabited

/-- A trial record (R133, Table 8.2); its slot is the field of RecoveryUnit that holds it. -/
structure Trial where
  element : Element
  state : TrialState
  startedAt : Uptime
  duration : Nat
  remaining : Nat
  deriving DecidableEq, Repr

/-- The Recovery Unit: the ballot slot and the two trial slots (R114, R132). -/
structure RecoveryUnit where
  ballot : Option Ballot
  primary : Option Trial
  nested : Option Trial
  deriving DecidableEq, Repr

/-- A retained entry (R149, Table 9.1). -/
structure RetainedEntry where
  locked : Bool
  cls : Option FaultClass
  keyCycle : Option Nat
  lockCount : Nat
  deriving DecidableEq, Repr

/-- The always-on domain: the Retained Lockout Map and the key-cycle counter (R149, R150). -/
structure RetainedMap where
  entries : PerElement RetainedEntry
  keyCycles : Nat
  deriving DecidableEq, Repr

/-! ## The Operating State Controller and the Time Base -/

/-- The four part states (R160). -/
inductive PartState where
  | config | starting | run | failsafe
  deriving DecidableEq, Repr, Inhabited

/-- The failsafe causes (R109). -/
inductive Cause where
  | none | readbackFront | readbackRear | configIntegrity
  deriving DecidableEq, Repr, Inhabited

/-- The failsafe cause record (R109, Table 6.3). -/
structure CauseRecord where
  cause : Cause
  enteredAt : Option Uptime
  enteredFrom : Option PartState
  deriving DecidableEq, Repr

/-- The Operating State Controller (Chapter 10). The image is held as its 236 serialized bytes (R183). -/
structure Controller where
  part : PartState
  image : List Byte
  frozen : Option Half
  started : PortSet
  startWindow : Timer
  integrity : Timer
  configPort : Port
  arm : Bool
  svc : Bool
  cause : CauseRecord
  deriving DecidableEq, Repr

/-- The Time Base: the uptime (R158), and whether the part is held in reset (R104, R161, R162). -/
structure TimeBase where
  uptime : Uptime
  held : Bool
  deriving DecidableEq, Repr

/-! ## The link ports (Chapter 11) -/

/-- The receiver states (R173). -/
inductive Receiver where
  | idle | receiving | replying
  deriving DecidableEq, Repr, Inhabited

/-- The link-error kinds (R176); NONE is the absence of one. -/
inductive LinkError where
  | stop | gap | length | crc | overlap
  deriving DecidableEq, Repr, Inhabited

/-- The reasons of a voided ballot (R127). -/
inductive VoidReason where
  | confirmed | portOut | noSlot
  deriving DecidableEq, Repr, Inhabited

/-- The outcomes a TRIAL notice carries (Table 11.4). -/
inductive TrialOutcome where
  | started (slot : TrialSlot)
  | passed
  | failed
  | suspended
  | resumed
  | vetoed
  | lapsed
  | voided (reason : VoidReason)
  deriving DecidableEq, Repr

/-- The pending-notice set of a port: each of the five classes pending with its detail, or not (R178). The
remaining time in the detail of a BALLOT notice is computed when it is read (R120). -/
structure NoticeSet where
  envelope : Option Half
  ballot : Option Element
  confirmed : Option (Element × Option FaultClass)
  trial : Option (Element × TrialOutcome)
  linkErr : Option LinkError
  deriving DecidableEq, Repr

/-- The status codes (Table 11.3). -/
inductive Status where
  | ok | unknown | range | wrongState | notRunning | denied | outOfService | busy | groupHeld | noBudget | noQuorum
  | noBallot | notAsked | stale | digestMismatch | notArmed | failsafe
  deriving DecidableEq, Repr, Inhabited

/-- A reply (R177, Table 11.2), but for its length byte and CRC, which follow from it. -/
structure Reply where
  code : Byte
  status : Status
  notices : Byte
  generation : Half
  part : PartState
  payload : List Byte
  deriving DecidableEq, Repr

/-- A link port: receiver state, frame buffer, pending-notice set, last link-error kind (Chapter 11). `reply` is
the reply being sent while REPLYING; `overlapped` says that this reply has had its OVERLAP discard (R176). These two
are the model's own fields (assumption 7, DEDUCED, safe). -/
structure LinkPort where
  receiver : Receiver
  buffer : List Byte
  notices : NoticeSet
  lastError : Option LinkError
  reply : Option Reply
  overlapped : Bool
  deriving DecidableEq, Repr

end Sys2Proof.Machine
end

