-- ==== Sys2Proof/Machine/Operands.lean ====
section
/-! DEFINITION. The names the spec gives numbers to: the code of each name, the name of each code where an operand
byte carries one (R180), and the fixed assignments of Chapter 1: the group of an element, the element of a port. -/

namespace Sys2Proof.Machine

/-! ## Codes -/

/-- The number of an element, 0 to 10. -/
def elementCode : Element → Nat
  | .frontPower => 0
  | .frontMotor => 1
  | .frontCtl => 2
  | .rearPower => 3
  | .rearMotor => 4
  | .rearCtl => 5
  | .packCells => 6
  | .packCtl => 7
  | .throttle => 8
  | .brake => 9
  | .rideCtl => 10

/-- The element of a code, none above 10. -/
def elementOf (b : Byte) : Option Element := allElements[b.toNat]?

/-- The number of a class, 0 to 7. -/
def classCode : FaultClass → Nat
  | .overcurrent => 0
  | .overtemperature => 1
  | .sensorImplausible => 2
  | .supplyRange => 3
  | .stall => 4
  | .lossOfContact => 5
  | .frameIntegrity => 6
  | .adoptionLapse => 7

/-- The class of a code that a REPORT or a LINE entry may carry, C0 to C4; none above 4 (R45, R183). -/
def reportableClassOf (b : Byte) : Option FaultClass :=
  [FaultClass.overcurrent, .overtemperature, .sensorImplausible, .supplyRange, .stall][b.toNat]?

/-- The number of a profile, which is its rank (R66). -/
def profileRank : ProfileId → Nat
  | .normal => 0
  | .eco => 1
  | .rearOnly => 2
  | .frontOnly => 3
  | .noRegen => 4
  | .limp => 5
  | .walk => 6
  | .safeStop => 7

/-- The profiles in order, P0 to P7. -/
def allProfiles : List ProfileId := [.normal, .eco, .rearOnly, .frontOnly, .noRegen, .limp, .walk, .safeStop]

/-- The profile of a code, none above 7. -/
def profileOf (b : Byte) : Option ProfileId := allProfiles[b.toNat]?

/-- The profile of a 3-bit field. -/
def profileOfBits (b : BitVec 3) : ProfileId := (allProfiles[b.toNat]?).getD .normal

/-- The number of a port (R180). -/
def portCode : Port → Nat
  | .front => 0
  | .rear => 1
  | .pack => 2
  | .ride => 3

/-- The number of a line, 0 to 5. -/
def lineCode : FaultLine → Nat
  | .fl0 => 0
  | .fl1 => 1
  | .fl2 => 2
  | .fl3 => 3
  | .fl4 => 4
  | .fl5 => 5

/-- The code of a health state (R180). -/
def healthCode : Health → Nat
  | .inService => 0
  | .degraded => 1
  | .isolated => 2
  | .trial => 3
  | .lockedOut => 4

/-- The code of a part state (Table 11.2). -/
def partCode : PartState → Nat
  | .config => 0
  | .starting => 1
  | .run => 2
  | .failsafe => 3

/-- The code of a failsafe cause (Table 11.7). -/
def causeCode : Cause → Nat
  | .none => 0
  | .readbackFront => 1
  | .readbackRear => 2
  | .configIntegrity => 3

/-- The code of a link-error kind, 0 for NONE (Table 11.7). -/
def linkErrorCode : Option LinkError → Nat
  | none => 0
  | some .stop => 1
  | some .gap => 2
  | some .length => 3
  | some .crc => 4
  | some .overlap => 5

/-- The link error of a FRAME_DISCARD. -/
def frameErrorKind : FrameError → LinkError
  | .stop => .stop
  | .length => .length
  | .crc => .crc
  | .overlap => .overlap

/-- The code of a trial slot (Table 11.4). -/
def slotCode : TrialSlot → Nat
  | .primary => 0
  | .nested => 1

/-- The code of a reason for voiding a ballot (Table 11.4). -/
def reasonCode : VoidReason → Nat
  | .confirmed => 1
  | .portOut => 2
  | .noSlot => 3

/-- The outcome byte and the byte after it in the detail of a TRIAL notice (Table 11.4). -/
def outcomeCode : TrialOutcome → Nat × Nat
  | .started slot => (0, slotCode slot)
  | .passed => (1, 0)
  | .failed => (2, 0)
  | .suspended => (3, 0)
  | .resumed => (4, 0)
  | .vetoed => (5, 0)
  | .lapsed => (6, 0)
  | .voided r => (7, reasonCode r)

/-- The code of a report result (Table 11.5). -/
def resultCode : ReportResult → Nat
  | .suspect => 0
  | .confirmed => 1
  | .notRecorded => 2

/-- The value of a status code (Table 11.3). -/
def statusCode : Status → Nat
  | .ok => 0x00
  | .unknown => 0x01
  | .range => 0x02
  | .wrongState => 0x03
  | .notRunning => 0x04
  | .denied => 0x05
  | .outOfService => 0x06
  | .busy => 0x07
  | .groupHeld => 0x08
  | .noBudget => 0x09
  | .noQuorum => 0x0A
  | .noBallot => 0x0B
  | .notAsked => 0x0C
  | .stale => 0x0D
  | .digestMismatch => 0x0E
  | .notArmed => 0x0F
  | .failsafe => 0x10

/-- The section of a code, 0 to 7 (Table 11.9). -/
def sectOf (b : Byte) : Option Sect :=
  [Sect.cls, .element, .group, .profile, .modeRule, .line, .port, .glob][b.toNat]?

/-! ## The fixed assignments of Chapter 1 -/

/-- The group of an element (R1, Table 1.1). -/
def elementGroup : Element → Group
  | .frontPower | .frontMotor | .frontCtl => .front
  | .rearPower | .rearMotor | .rearCtl => .rear
  | .packCells | .packCtl => .supply
  | .throttle | .brake | .rideCtl => .rider

/-- The number of a group: its GROUP index (Table 10.4). -/
def groupCode : Group → Nat
  | .front => 0
  | .rear => 1
  | .supply => 2
  | .rider => 3

/-- The controller element of a port (R2). -/
def controllerOf : Port → Element
  | .front => .frontCtl
  | .rear => .rearCtl
  | .pack => .packCtl
  | .ride => .rideCtl

/-- The port that an element controls, none for an element that is no controller (R2). -/
def portOf : Element → Option Port
  | .frontCtl => some .front
  | .rearCtl => some .rear
  | .packCtl => some .pack
  | .rideCtl => some .ride
  | .frontPower | .frontMotor | .rearPower | .rearMotor | .packCells | .throttle | .brake => none

/-- The drive port that a port is, none for PACK and RIDE. -/
def driveOf : Port → Option DrivePort
  | .front => some .front
  | .rear => some .rear
  | .pack => none
  | .ride => none

/-- A drive port as a port. -/
def portOfDrive : DrivePort → Port
  | .front => .front
  | .rear => .rear

/-- The origin of a controller's report: its port. -/
def originOf : Port → Origin
  | .front => .front
  | .rear => .rear
  | .pack => .pack
  | .ride => .ride

/-- The health state is in the category OUT (Table 1.3). -/
def isOut : Health → Bool
  | .isolated | .lockedOut => true
  | .inService | .degraded | .trial => false

/-- A health state satisfies a mode rule's required category (R68, Table 4.4). -/
def satisfies : Required → Health → Bool
  | .ok, h => h == .inService
  | .impaired, h => h == .degraded || h == .trial
  | .out, h => h == .isolated || h == .lockedOut
  | .notOk, h => !(h == .inService)

/-- A port is in service while its controller element is IN_SERVICE, DEGRADED or TRIAL (R2). -/
def inService (health : PerElement Health) (p : Port) : Bool := !isOut (health.get (controllerOf p))

/-! ## Sets -/

/-- The empty port set. -/
def noPorts : PortSet := PerPort.const false

/-- The ports that are in a set. -/
def portsIn (v : PortSet) : List Port := allPorts.filter v.get

/-- The set of the ports in one set and not in another. -/
def portsLess (v w : PortSet) : PortSet :=
  { front := v.front && !w.front, rear := v.rear && !w.rear, pack := v.pack && !w.pack, ride := v.ride && !w.ride }

/-- The set holds no port. -/
def portsEmpty (v : PortSet) : Bool := !v.front && !v.rear && !v.pack && !v.ride

/-- The origins set with one origin added (R26, step 2). -/
def OriginSet.insert (v : OriginSet) : Origin → OriginSet
  | .front => { v with front := true }
  | .rear => { v with rear := true }
  | .pack => { v with pack := true }
  | .ride => { v with ride := true }
  | .lines => { v with lines := true }
  | .monitor => { v with monitor := true }

/-- The empty origins set. -/
def noOrigins : OriginSet :=
  { front := false, rear := false, pack := false, ride := false, lines := false, monitor := false }

/-- The number of origins in a set. -/
def OriginSet.count (v : OriginSet) : Nat :=
  v.front.toNat + v.rear.toNat + v.pack.toNat + v.ride.toNat + v.lines.toNat + v.monitor.toNat

/-! ## Timers -/

/-- One millisecond off a running timer's remaining time. -/
def tickTimer (t : Timer) : Timer := t.map (· - 1)

/-- A timer has run out: it exists and its remaining time is 0. -/
def ranOut (t : Timer) : Bool := t == some 0

/-- A timer that is left as it is while it runs, and started with T otherwise. -/
def startIfIdle (t : Timer) (T : Nat) : Timer :=
  match t with
  | some n => some n
  | none => some T

end Sys2Proof.Machine
end

