-- ==== Sys2Proof/Machine/Flags.lean ====
section
/-! DEFINITION. Bits and bytes: the flag bytes, nibble fields and port-set bytes of payloads and configuration
entries (R180 to R183), packed and read back. -/

namespace Sys2Proof.Machine

/-- The byte whose bit n is the n-th flag; bits no flag is given for are 0 (R180). -/
def flagByte (flags : List Bool) : Byte := flags.foldr (fun f acc => (acc <<< 1) ||| (if f then 1#8 else 0#8)) 0#8

/-- A number as one byte. -/
def natByte (n : Nat) : Byte := BitVec.ofNat 8 n

/-- Two 4-bit fields in one byte. -/
def nibbles (low high : Nat) : Byte := natByte (low % 16 + 16 * (high % 16))

/-- A port set as a byte: bit 0 FRONT, bit 1 REAR, bit 2 PACK, bit 3 RIDE (R180). -/
def portSetByte (v : PortSet) : Byte := flagByte [v.front, v.rear, v.pack, v.ride]

/-- The port set of a byte's bits 0 to 3. -/
def portSetOf (b : Byte) : PortSet :=
  { front := b.getLsbD 0, rear := b.getLsbD 1, pack := b.getLsbD 2, ride := b.getLsbD 3 }

/-- A port set in bits 0 to 3 and another in bits 4 to 7. -/
def twoPortSets (low high : PortSet) : Byte :=
  flagByte [low.front, low.rear, low.pack, low.ride, high.front, high.rear, high.pack, high.ride]

/-- The origins byte of READ_FAULT (Table 11.6, byte 4). -/
def originsByte (v : OriginSet) : Byte := flagByte [v.front, v.rear, v.pack, v.ride, v.lines, v.monitor]

/-- The output levels in bits 0 to 3 (Table 11.7, page 0, byte 14). -/
def outputFlags (o : Outputs) : List Bool := [o.frontEn, o.rearEn, o.regenEn, o.packTrip]

/-- The allowance byte: regen, front drive and rear drive in bits 0 to 2, the severity in bits 4 to 6 (R182). -/
def allowanceByte (v : Envelope) : Byte :=
  flagByte [v.limits.regen, v.limits.frontDrive, v.limits.rearDrive] ||| (natByte (v.severity % 8) <<< 4)

/-- The pending-notice set as the header shows it (Table 11.2, byte 2). -/
def noticeByte (v : NoticeSet) : Byte :=
  flagByte [v.envelope.isSome, v.ballot.isSome, v.confirmed.isSome, v.trial.isSome, v.linkErr.isSome]

/-- A floor request as a number (Tables 11.5 and 11.8): 0 none, 1 to 7 the profile. -/
def floorCode : Option ProfileId → Nat
  | none => 0
  | some f => profileRank f

/-- The number that a set of mode rules spells: bit n for Mn (Table 11.8, bytes 8 to 9). -/
def ruleBits (matched : List Nat) : Half := matched.foldl (fun acc n => acc ||| (1#16 <<< n)) 0#16

end Sys2Proof.Machine
end

