-- ==== Sys2Proof/Machine/Image.lean ====
section
/-! DEFINITION. The configuration image: its eight sections (R163, Table 10.4), the layout of every entry (R183,
Table 11.9) written and read, the checks of WRITE_CONFIG on an entry (R164, Table 10.6), the factory contents,
what each block reads from the image, and the digest (R166). -/

namespace Sys2Proof.Machine

/-! ## Where an entry stands -/

/-- The number of writable indices of a section (Table 10.4). -/
def sectCount : Sect → Nat
  | .cls => 7
  | .element => 11
  | .group => 4
  | .profile => 7
  | .modeRule => 16
  | .line => 6
  | .port => 4
  | .glob => 1

/-- The length of a section's entry in bytes (Table 11.9). -/
def sectLength : Sect → Nat
  | .cls => 6
  | .element => 3
  | .group => 2
  | .profile => 4
  | .modeRule => 6
  | .line => 3
  | .port => 1
  | .glob => 7

/-- The place of a section's first byte in the serialized image: the lengths of the sections before it (R183: 42
CLASS, 33 ELEMENT, 8 GROUP, 28 PROFILE, 96 MODERULE, 18 LINE, 4 PORT, 7 GLOBAL). -/
def sectBase : Sect → Nat
  | .cls => 0
  | .element => 42
  | .group => 75
  | .profile => 83
  | .modeRule => 111
  | .line => 207
  | .port => 225
  | .glob => 229

/-- The number of bytes of the serialized image (R183). -/
def imageLength : Nat := 236

/-- The place of an entry's first byte. -/
def entryOffset (k : Sect) (i : Nat) : Nat := sectBase k + sectLength k * i

/-- The bytes of one entry of an image. -/
def entryAt (image : List Byte) (k : Sect) (i : Nat) : List Byte := (image.drop (entryOffset k i)).take (sectLength k)

/-- The image with one entry replaced whole (R165). -/
def putEntry (image : List Byte) (k : Sect) (i : Nat) (entry : List Byte) : List Byte :=
  image.take (entryOffset k i) ++ entry ++ image.drop (entryOffset k i + sectLength k)

/-- A byte of an entry, 0 past its end. -/
def byteAt (bytes : List Byte) (n : Nat) : Byte := bytes.getD n 0#8

/-- A two-byte number of an entry, low byte first. -/
def numAt (bytes : List Byte) (n : Nat) : Nat := (halfOf (byteAt bytes n) (byteAt bytes (n + 1))).toNat

/-! ## Entries written and read (Table 11.9) -/

/-- A CLASS entry's bytes. -/
def classEntry (v : ClassParams) : List Byte :=
  [natByte v.weight, natByte v.confirm, natByte v.clear, natByte (v.decay / 10), natByte v.corroboration,
    flagByte [v.action == .derate, v.retained]]

/-- The class parameters of a CLASS entry. -/
def classOf (bytes : List Byte) : ClassParams :=
  { weight := (byteAt bytes 0).toNat
    confirm := (byteAt bytes 1).toNat
    clear := (byteAt bytes 2).toNat
    decay := 10 * (byteAt bytes 3).toNat
    corroboration := (byteAt bytes 4).toNat
    action := if (byteAt bytes 5).getLsbD 0 then .derate else .isolate
    retained := (byteAt bytes 5).getLsbD 1 }

/-- An ELEMENT entry's bytes. -/
def elementEntry (v : ElementConfig) : List Byte := [portSetByte v.rights, portSetByte v.consent, natByte v.budget]

/-- The contents of an ELEMENT entry. -/
def elementConfigOf (bytes : List Byte) : ElementConfig :=
  { rights := portSetOf (byteAt bytes 0)
    consent := portSetOf (byteAt bytes 1)
    budget := (byteAt bytes 2).toNat }

/-- A GROUP entry's bytes, of a trial duration in ms. -/
def groupEntry (duration : Nat) : List Byte := natBytes (duration / 100)

/-- The trial duration in ms of a GROUP entry. -/
def durationOf (bytes : List Byte) : Nat := 100 * numAt bytes 0

/-- A PROFILE entry's bytes. -/
def profileEntry (v : Limits) : List Byte :=
  [natByte v.frontCap, natByte v.rearCap, natByte v.speedCap, flagByte [v.regen, v.frontDrive, v.rearDrive]]

/-- The limits of a PROFILE entry. -/
def limitsOf (bytes : List Byte) : Limits :=
  { frontCap := (byteAt bytes 0).toNat
    rearCap := (byteAt bytes 1).toNat
    speedCap := (byteAt bytes 2).toNat
    regen := (byteAt bytes 3).getLsbD 0
    frontDrive := (byteAt bytes 3).getLsbD 1
    rearDrive := (byteAt bytes 3).getLsbD 2 }

/-- The two-bit code of a required category. -/
def requiredCode : Required → Nat
  | .ok => 0
  | .impaired => 1
  | .out => 2
  | .notOk => 3

/-- The required category of a two-bit field. -/
def requiredOf (b1 b0 : Bool) : Required :=
  match b1, b0 with
  | false, false => .ok
  | false, true => .impaired
  | true, false => .out
  | true, true => .notOk

/-- Four two-bit categories in one byte, the first lowest. -/
def fourCategories (a b c d : Required) : Byte :=
  natByte (requiredCode a + 4 * requiredCode b + 16 * requiredCode c + 64 * requiredCode d)

/-- A MODERULE entry's bytes. -/
def modeRuleEntry (v : ModeRule) : List Byte :=
  [flagByte [v.valid] ||| (natByte (profileRank v.target) <<< 4),
    flagByte [v.care.frontPower, v.care.frontMotor, v.care.frontCtl, v.care.rearPower, v.care.rearMotor,
      v.care.rearCtl, v.care.packCells, v.care.packCtl],
    flagByte [v.care.throttle, v.care.brake, v.care.rideCtl],
    fourCategories v.category.frontPower v.category.frontMotor v.category.frontCtl v.category.rearPower,
    fourCategories v.category.rearMotor v.category.rearCtl v.category.packCells v.category.packCtl,
    fourCategories v.category.throttle v.category.brake v.category.rideCtl .ok]

/-- The mode rule of a MODERULE entry: care of En in bit n of bytes 1 to 2, its category in bits 2n and 2n + 1
counted from bit 0 of byte 3. -/
def modeRuleOf (bytes : List Byte) : ModeRule :=
  { valid := (byteAt bytes 0).getLsbD 0
    care := PerElement.of fun e => (byteAt bytes 2 ++ byteAt bytes 1).getLsbD (elementCode e)
    category := PerElement.of fun e =>
      requiredOf ((byteAt bytes 5 ++ byteAt bytes 4 ++ byteAt bytes 3).getLsbD (2 * elementCode e + 1))
        ((byteAt bytes 5 ++ byteAt bytes 4 ++ byteAt bytes 3).getLsbD (2 * elementCode e))
    target := profileOfBits ((byteAt bytes 0).extractLsb' 4 3) }

/-- The two-bit code of a filter count of 1, 2, 4 or 8, or of a sample interval of 1, 2, 4 or 8 quarters of a ms. -/
def powerCode (n : Nat) : Nat := if n = 1 then 0 else if n = 2 then 1 else if n = 4 then 2 else 3

/-- A LINE entry's bytes. -/
def lineEntry (v : LineConfig) : List Byte :=
  [flagByte [v.enabled, v.mode == .edge, v.low] ||| (natByte (powerCode v.filter) <<< 3) |||
      (natByte (powerCode v.interval) <<< 5),
    natByte (elementCode v.element), natByte (classCode v.cls)]

/-- The contents of a LINE entry. An element or class code outside its range, which only a corruption of the image
can leave, names a free value (assumption 6, DESIGN CHOICE, safe). -/
def lineConfigOf (bytes : List Byte) : LineConfig :=
  { enabled := (byteAt bytes 0).getLsbD 0
    mode := if (byteAt bytes 0).getLsbD 1 then .edge else .level
    low := (byteAt bytes 0).getLsbD 2
    filter := 2 ^ ((byteAt bytes 0).extractLsb' 3 2).toNat
    interval := 2 ^ ((byteAt bytes 0).extractLsb' 5 2).toNat
    element := (elementOf (byteAt bytes 1)).getD (Config.strayElement (byteAt bytes 1))
    cls := (reportableClassOf (byteAt bytes 2)).getD (Config.strayClass (byteAt bytes 2)) }

/-- A PORT entry's bytes, of a check-in deadline in ms. -/
def portEntry (deadline : Nat) : List Byte := [natByte deadline]

/-- The check-in deadline in ms of a PORT entry. -/
def deadlineOf (bytes : List Byte) : Nat := (byteAt bytes 0).toNat

/-- A GLOBAL entry's bytes. -/
def globalEntry (v : GlobalConfig) : List Byte :=
  natBytes v.startWindow ++ natBytes (v.dwell / 10) ++ [natByte v.adoption] ++ natBytes v.ballot

/-- The contents of a GLOBAL entry. -/
def globalOf (bytes : List Byte) : GlobalConfig :=
  { startWindow := numAt bytes 0
    dwell := 10 * numAt bytes 2
    adoption := (byteAt bytes 4).toNat
    ballot := numAt bytes 5 }

/-! ## The checks of WRITE_CONFIG on an entry (R164, Table 10.6; R183) -/

/-- Check 5: the entry's length is that of its section, every field lies within its range, and every bit that
Table 11.9 does not assign is 0. -/
def fieldsInRange (k : Sect) (b : List Byte) : Bool :=
  b.length == sectLength k &&
  match k with
  | .cls =>
      decide (1 ≤ (byteAt b 0).toNat) && decide (1 ≤ (byteAt b 1).toNat) && decide ((byteAt b 2).toNat ≤ 254) &&
      decide (1 ≤ (byteAt b 3).toNat) && decide ((byteAt b 4).toNat ≤ 4) && decide ((byteAt b 5).toNat ≤ 3)
  | .element =>
      decide ((byteAt b 0).toNat ≤ 15) && decide ((byteAt b 1).toNat ≤ 15) && decide ((byteAt b 2).toNat ≤ 7)
  | .group => decide (1 ≤ numAt b 0) && decide (numAt b 0 ≤ 600)
  | .profile =>
      decide ((byteAt b 0).toNat ≤ 250) && decide ((byteAt b 1).toNat ≤ 250) && decide ((byteAt b 2).toNat ≤ 60) &&
      decide ((byteAt b 3).toNat ≤ 7)
  | .modeRule => (byteAt b 0 &&& 0x8E#8) == 0#8 && (byteAt b 2 &&& 0xF8#8) == 0#8 && (byteAt b 5 &&& 0xC0#8) == 0#8
  | .line =>
      (byteAt b 0 &&& 0x80#8) == 0#8 && decide ((byteAt b 1).toNat ≤ 10) && decide ((byteAt b 2).toNat ≤ 4)
  | .port => byteAt b 0 == 0#8 || decide (5 ≤ (byteAt b 0).toNat)
  | .glob =>
      decide (100 ≤ numAt b 0) && decide (numAt b 0 ≤ 5000) && decide (numAt b 2 ≤ 1000) &&
      decide (5 ≤ (byteAt b 4).toNat) && decide ((byteAt b 4).toNat ≤ 100) && decide (100 ≤ numAt b 5) &&
      decide (numAt b 5 ≤ 5000)

/-- Check 6: the cross-field checks, which only CLASS has: clear below confirm, weight above clear. -/
def crossFields (k : Sect) (b : List Byte) : Bool :=
  match k with
  | .cls => decide ((byteAt b 2).toNat < (byteAt b 1).toNat) && decide ((byteAt b 2).toNat < (byteAt b 0).toNat)
  | .element | .group | .profile | .modeRule | .line | .port | .glob => true

/-! ## What the blocks read -/

/-- The fixed parameters of C7 (R23). -/
def adoptionLapseParams : ClassParams :=
  { weight := 255, confirm := 1, clear := 0, decay := 0, corroboration := 0, action := .isolate, retained := false }

/-- The parameters of a class: C7's fixed ones, the image's for C0 to C6 (R23). -/
def classParams (image : List Byte) (c : FaultClass) : ClassParams :=
  match c with
  | .adoptionLapse => adoptionLapseParams
  | .overcurrent | .overtemperature | .sensorImplausible | .supplyRange | .stall | .lossOfContact
  | .frameIntegrity => classOf (entryAt image .cls (classCode c))

/-- The ELEMENT entry of an element. -/
def elementConfig (image : List Byte) (e : Element) : ElementConfig :=
  elementConfigOf (entryAt image .element (elementCode e))

/-- The trial duration of a group, in ms (R134). -/
def trialDuration (image : List Byte) (g : Group) : Nat := durationOf (entryAt image .group (groupCode g))

/-- The fixed contents of P7 (Table 4.2). -/
def safeStopLimits : Limits :=
  { frontCap := 0, rearCap := 0, speedCap := 0, regen := false, frontDrive := false, rearDrive := false }

/-- The limits of a profile: P7's fixed ones, the image's for P0 to P6 (R65). -/
def profileLimits (image : List Byte) (f : ProfileId) : Limits :=
  match f with
  | .safeStop => safeStopLimits
  | .normal | .eco | .rearOnly | .frontOnly | .noRegen | .limp | .walk =>
      limitsOf (entryAt image .profile (profileRank f))

/-- Mode rule Mn, 0 to 15 (R67). -/
def modeRule (image : List Byte) (n : Nat) : ModeRule := modeRuleOf (entryAt image .modeRule n)

/-- The LINE entry of a line (R49). -/
def lineConfig (image : List Byte) (l : FaultLine) : LineConfig := lineConfigOf (entryAt image .line (lineCode l))

/-- The check-in deadline value of a port, in ms; 0 turns supervision off (R56). -/
def checkInValue (image : List Byte) (p : Port) : Nat := deadlineOf (entryAt image .port (portCode p))

/-- The GLOBAL entry. -/
def globalConfig (image : List Byte) : GlobalConfig := globalOf (entryAt image .glob 0)

/-- The digest of an image: the CRC-16 of its 236 bytes (R166, R183). -/
def digest (image : List Byte) : Half := crc16 image

/-! ## The factory image (R163) -/

/-- The class parameters of Table 2.3, C0 to C6. -/
def factoryClasses : List ClassParams :=
  [{ weight := 64, confirm := 128, clear := 16, decay := 100, corroboration := 2, action := .isolate, retained := false },
   { weight := 32, confirm := 96, clear := 8, decay := 500, corroboration := 0, action := .derate, retained := false },
   { weight := 48, confirm := 96, clear := 8, decay := 200, corroboration := 2, action := .isolate, retained := false },
   { weight := 32, confirm := 64, clear := 8, decay := 200, corroboration := 2, action := .derate, retained := false },
   { weight := 64, confirm := 128, clear := 16, decay := 250, corroboration := 0, action := .isolate, retained := false },
   { weight := 64, confirm := 128, clear := 16, decay := 1000, corroboration := 0, action := .isolate, retained := false },
   { weight := 8, confirm := 64, clear := 4, decay := 100, corroboration := 0, action := .isolate, retained := false }]

/-- A port set by its members: FRONT, REAR, PACK, RIDE. -/
def portsOf (front rear pack ride : Bool) : PortSet := { front := front, rear := rear, pack := pack, ride := ride }

/-- The ELEMENT entries: reporting rights of Table 3.4, consent ports of Table 7.3, budget 2 but 1 for BRAKE (R14). -/
def factoryElements : List ElementConfig :=
  [{ rights := portsOf true false false false, consent := portsOf true false false true, budget := 2 },
   { rights := portsOf true false false false, consent := portsOf true false false true, budget := 2 },
   { rights := portsOf false true false true, consent := portsOf false false true true, budget := 2 },
   { rights := portsOf false true false false, consent := portsOf false true false true, budget := 2 },
   { rights := portsOf false true false false, consent := portsOf false true false true, budget := 2 },
   { rights := portsOf true false false true, consent := portsOf false false true true, budget := 2 },
   { rights := portsOf false false true false, consent := portsOf false false true true, budget := 2 },
   { rights := portsOf true true false true, consent := portsOf false false false true, budget := 2 },
   { rights := portsOf false false false true, consent := portsOf false false true true, budget := 2 },
   { rights := portsOf false false false true, consent := portsOf false false true true, budget := 1 },
   { rights := portsOf true true true false, consent := portsOf false false true false, budget := 2 }]

/-- The trial durations of Table 8.3, in ms. -/
def factoryDurations : List Nat := [5000, 5000, 10000, 3000]

/-- The profiles of Table 4.2, P0 to P6. -/
def factoryProfiles : List Limits :=
  [{ frontCap := 250, rearCap := 250, speedCap := 45, regen := true, frontDrive := true, rearDrive := true },
   { frontCap := 120, rearCap := 120, speedCap := 25, regen := true, frontDrive := true, rearDrive := true },
   { frontCap := 0, rearCap := 160, speedCap := 20, regen := true, frontDrive := false, rearDrive := true },
   { frontCap := 120, rearCap := 0, speedCap := 15, regen := true, frontDrive := true, rearDrive := false },
   { frontCap := 160, rearCap := 160, speedCap := 25, regen := false, frontDrive := true, rearDrive := true },
   { frontCap := 60, rearCap := 60, speedCap := 12, regen := false, frontDrive := true, rearDrive := true },
   { frontCap := 20, rearCap := 20, speedCap := 6, regen := false, frontDrive := true, rearDrive := true }]

/-- A mode rule with no care flag set and every category OK (R69). -/
def bareRule (valid : Bool) (target : ProfileId) : ModeRule :=
  { valid := valid, care := PerElement.of fun _ => false, category := PerElement.of fun _ => .ok, target := target }

/-- A valid mode rule that cares about one element. -/
def careRule (e : Element) (r : Required) (target : ProfileId) : ModeRule :=
  { bareRule true target with
    care := (bareRule true target).care.set e true
    category := (bareRule true target).category.set e r }

/-- The mode rules of Table 4.5, M0 to M15. -/
def factoryRules : List ModeRule :=
  [careRule .frontPower .out .rearOnly, careRule .frontMotor .out .rearOnly, careRule .frontCtl .out .rearOnly,
   careRule .rearPower .out .frontOnly, careRule .rearMotor .out .frontOnly, careRule .rearCtl .out .frontOnly,
   careRule .frontPower .impaired .eco, careRule .rearPower .impaired .eco, careRule .packCells .notOk .limp,
   careRule .packCtl .out .limp, careRule .throttle .out .walk, careRule .brake .notOk .walk,
   careRule .rideCtl .out .safeStop,
   { careRule .frontPower .out .safeStop with
     care := (careRule .frontPower .out .safeStop).care.set .rearPower true
     category := (careRule .frontPower .out .safeStop).category.set .rearPower .out },
   bareRule false .normal, bareRule false .normal]

/-- The LINE entry of Table 3.5, the same for every line: sample interval 1 ms, which is 4 quarters. -/
def factoryLine : LineConfig :=
  { enabled := false, mode := .level, low := false, filter := 4, interval := 4, element := .frontPower,
    cls := .overcurrent }

/-- The GLOBAL entry's factory values (Table 10.4). -/
def factoryGlobal : GlobalConfig := { startWindow := 1000, dwell := 2000, adoption := 20, ballot := 500 }

/-- The factory image: the 56 entries in the order of Table 10.4. -/
def factoryImage : List Byte :=
  factoryClasses.flatMap classEntry ++ factoryElements.flatMap elementEntry ++ factoryDurations.flatMap groupEntry ++
  factoryProfiles.flatMap profileEntry ++ factoryRules.flatMap modeRuleEntry ++
  (List.replicate 6 factoryLine).flatMap lineEntry ++ (List.replicate 4 50).flatMap portEntry ++
  globalEntry factoryGlobal

end Sys2Proof.Machine
end

