-- ==== Sys2Proof/Machine/Target.lean ====
section
/-! DEFINITION. Limits compared and combined (R82, R75), and the target computed from its inputs (R68, R74 to R77):
the health states, the floor requests, the overflow flag, and the profiles and mode rules of the image. -/

namespace Sys2Proof.Machine

/-- The field-wise tighter of two sets of limits: the lower number, "no" rather than "yes" (R75, R82). -/
def Limits.tighter (a b : Limits) : Limits :=
  { frontCap := min a.frontCap b.frontCap
    rearCap := min a.rearCap b.rearCap
    speedCap := min a.speedCap b.speedCap
    regen := a.regen && b.regen
    frontDrive := a.frontDrive && b.frontDrive
    rearDrive := a.rearDrive && b.rearDrive }

/-- The field-wise tighter of two envelope values; in the severity the higher is the tighter (R82). -/
def Envelope.tighter (a b : Envelope) : Envelope :=
  { limits := a.limits.tighter b.limits, severity := max a.severity b.severity }

/-- The envelope SAFE_STOP: the contents of P7 with severity 7 (R82). -/
def safeStop : Envelope := { limits := safeStopLimits, severity := 7 }

/-- A mode rule matches: it is valid, and every element it cares about satisfies its required category (R68). -/
def ruleMatches (r : ModeRule) (health : PerElement Health) : Bool :=
  r.valid && allElements.all fun e => !r.care.get e || satisfies (r.category.get e) (health.get e)

/-- The mode rules that match, by number. -/
def matchedRules (image : List Byte) (health : PerElement Health) : List Nat :=
  (List.range 16).filter fun n => ruleMatches (modeRule image n) health

/-- The floor requests in force, as demands (R70). -/
def floorDemands (floors : PerPort (Option ProfileId)) : List ProfileId := allPorts.filterMap floors.get

/-- The demands (R74): the baseline P0, the matching rules' target profiles, the floors in force, and P7 while
overflow is set. -/
def demands (image : List Byte) (health : PerElement Health) (floors : PerPort (Option ProfileId))
    (overflow : Bool) : List ProfileId :=
  [.normal] ++ (matchedRules image health).map (fun n => (modeRule image n).target) ++ floorDemands floors ++
  (if overflow then [.safeStop] else [])

/-- The limits that demands combine to, field by field (R75). -/
def combined (image : List Byte) (ds : List ProfileId) : Limits :=
  ds.foldl (fun acc f => acc.tighter (profileLimits image f)) (profileLimits image .normal)

/-- Some element of a group is ISOLATED or LOCKED_OUT (Table 4.8). -/
def groupOut (health : PerElement Health) (g : Group) : Bool :=
  allElements.any fun e => elementGroup e == g && isOut (health.get e)

/-- The hard cuts that apply (Table 4.8). -/
def cutsOf (health : PerElement Health) : Cuts :=
  { front := groupOut health .front, rear := groupOut health .rear, supply := groupOut health .supply }

/-- The limits after the hard cuts (R75). -/
def applyCuts (c : Cuts) (l : Limits) : Limits :=
  { l with
    regen := l.regen && !c.supply
    frontDrive := l.frontDrive && !c.front
    rearDrive := l.rearDrive && !c.rear }

/-- The severity of the target: the highest rank of a demand and floor of a cut (R76). -/
def severityOf (ds : List ProfileId) (c : Cuts) : Nat :=
  (ds.map profileRank).foldl max (max (if c.front then 2 else 0) (max (if c.rear then 3 else 0) (if c.supply then 4 else 0)))

/-- The target record of its inputs (R73 to R77, R79). -/
def targetOf (image : List Byte) (health : PerElement Health) (floors : PerPort (Option ProfileId))
    (overflow : Bool) : Target :=
  let ds := demands image health floors overflow
  let c := cutsOf health
  { env := { limits := applyCuts c (combined image ds), severity := severityOf ds c }
    matched := matchedRules image health
    floors := floors
    overflowDemand := overflow
    cuts := c }

end Sys2Proof.Machine
end

