-- ==== Sys2Proof/Machine/State.lean ====
section
/-! DEFINITION. The machine's state, block by block (Table 1-1), its faults and refusals, and its state right after
reset. -/

namespace Sys2Proof.Machine

/-- The state of the FM412. Each field is the state of one block of Table 1-1, and `pending` is the queue of the
commands that wait, first in, first out. -/
structure State where
  time : TimeBase
  ports : PerPort LinkPort
  table : FaultTable
  map : ElementMap
  lines : PerLine LineFilter
  contact : PerPort Timer
  unit : EnvelopeUnit
  permit : PermitStage
  recovery : RecoveryUnit
  retained : RetainedMap
  osc : Controller
  pending : List Instr
  deriving DecidableEq, Repr

/-- The reasons a step can stop with a fault. The spec gives every command an effect in every state, so no command
of this model raises one. -/
inductive Fault where
  /-- Raised by no command: the spec names no condition that stops the device (safe). -/
  | unreachable
  deriving DecidableEq, Repr

/-- The reasons a step can be refused. -/
inductive Refusal where
  /-- Raised by exec for a command that has no meaning yet, by its mnemonic (safe); no arm does. -/
  | notModelled (mnemonic : String)
  deriving DecidableEq, Repr

/-- An empty pending-notice set. -/
def NoticeSet.empty : NoticeSet := { envelope := none, ballot := none, confirmed := none, trial := none, linkErr := none }

/-- A link port after a reset (R173). -/
def LinkPort.reset : LinkPort :=
  { receiver := .idle, buffer := [], notices := NoticeSet.empty, lastError := none, reply := none, overlapped := false }

/-- A retained entry after a power-on reset (Table 9.1). -/
def RetainedEntry.reset : RetainedEntry := { locked := false, cls := none, keyCycle := none, lockCount := 0 }

/-- An adoption record after a reset (Table 5.2). -/
def AdoptionRecord.reset : AdoptionRecord := { lastAdopted := none, pending := false, deadline := none, latch := false }

/-- The machine right after a power-on reset has ended with strap value 00, which makes RIDE the configuration port
(R161; the strap value is assumption 2, DESIGN CHOICE, unsafe). -/
def State.reset : State :=
  { time := { uptime := 0#32, held := false }
    ports := PerPort.const LinkPort.reset
    table := { records := [], overflow := false }
    map :=
      { health := PerElement.of fun _ => .inService
        budget := PerElement.of fun e => (elementConfig factoryImage e).budget }
    lines := PerLine.const { qualified := false, run := 0, reference := none }
    contact := PerPort.const none
    unit :=
      { floors := PerPort.const none
        target := targetOf factoryImage (PerElement.of fun _ => .inService) (PerPort.const none) false
        envelope := safeStop
        generation := 0#16
        dwell := none
        adoption := { front := AdoptionRecord.reset, rear := AdoptionRecord.reset } }
    permit :=
      { outputs := { frontEn := false, rearEn := false, regenEn := false, packTrip := false }
        mismatch := { front := 0, rear := 0 } }
    recovery := { ballot := none, primary := none, nested := none }
    retained := { entries := PerElement.of fun _ => RetainedEntry.reset, keyCycles := 0 }
    osc :=
      { part := .config
        image := factoryImage
        frozen := none
        started := PerPort.const false
        startWindow := none
        integrity := none
        configPort := .ride
        arm := false
        svc := false
        cause := { cause := .none, enteredAt := none, enteredFrom := none } }
    pending := [] }

end Sys2Proof.Machine
end

