-- ==== Sys2Proof/Machine/Ops.lean ====
section
/-! DEFINITION. The named operations on the state that every block shares: setting one value of a family, posting
and withdrawing notices (R178), supervision (R56, R57), the outputs (R102), the service of a port (R2). -/

namespace Sys2Proof.Machine

/-! ## One value of a family -/

/-- The state with one link port replaced. -/
def setPort (p : Port) (v : LinkPort) (s : State) : State := { s with ports := s.ports.set p v }

/-- The state with every port's pending-notice set through a function. -/
def mapNotices (f : NoticeSet → NoticeSet) (s : State) : State :=
  { s with ports := s.ports.map fun v => { v with notices := f v.notices } }

/-- The state with one port's pending-notice set through a function. -/
def onNotices (p : Port) (f : NoticeSet → NoticeSet) (s : State) : State :=
  setPort p { s.ports.get p with notices := f (s.ports.get p).notices } s

/-- The state with an element's health set. -/
def setHealth (e : Element) (h : Health) (s : State) : State := { s with map.health := s.map.health.set e h }

/-- The state with an element's remaining budget set. -/
def setBudget (e : Element) (n : Nat) (s : State) : State := { s with map.budget := s.map.budget.set e n }

/-- The state with a port's check-in timer set; none is unsupervised (R56). -/
def setContact (p : Port) (t : Timer) (s : State) : State := { s with contact := s.contact.set p t }

/-- The state with a port's floor request set (R70). -/
def setFloorOf (p : Port) (f : Option ProfileId) (s : State) : State := { s with unit.floors := s.unit.floors.set p f }

/-- The state with a drive port's adoption record set (R92). -/
def setAdoption (d : DrivePort) (v : AdoptionRecord) (s : State) : State :=
  { s with unit.adoption := s.unit.adoption.set d v }

/-- The state with a line's filter state set. -/
def setLine (l : FaultLine) (v : LineFilter) (s : State) : State := { s with lines := s.lines.set l v }

/-- The state with an element's retained entry set. -/
def setEntry (e : Element) (v : RetainedEntry) (s : State) : State :=
  { s with retained.entries := s.retained.entries.set e v }

/-- The state with one readback mismatch counter set. -/
def setMismatch (d : DrivePort) (n : Nat) (s : State) : State :=
  { s with permit.mismatch := s.permit.mismatch.set d n }

/-! ## Notices (R178) -/

/-- The ENVELOPE notice with the current generation, to all four ports (R84, step 3). -/
def postEnvelope (s : State) : State := mapNotices (fun v => { v with envelope := some s.unit.generation }) s

/-- A CONFIRMED notice to all four ports; no class is "none" (R5, R32). -/
def postConfirmed (e : Element) (c : Option FaultClass) (s : State) : State :=
  mapNotices (fun v => { v with confirmed := some (e, c) }) s

/-- A TRIAL notice to all four ports (R127, R144). -/
def postTrial (e : Element) (o : TrialOutcome) (s : State) : State :=
  mapNotices (fun v => { v with trial := some (e, o) }) s

/-- The BALLOT notice withdrawn from all four ports (R127, step 2). -/
def withdrawBallot (s : State) : State := mapNotices (fun v => { v with ballot := none }) s

/-- A BALLOT notice to each port of a set (R120). -/
def postBallot (asked : PortSet) (e : Element) (s : State) : State :=
  (portsIn asked).foldl (fun s p => onNotices p (fun v => { v with ballot := some e }) s) s

/-! ## Service, supervision, outputs -/

/-- The part is in STARTING or RUN. -/
def isRunning (s : State) : Bool := s.osc.part == .starting || s.osc.part == .run

/-- A port is in service (R2). -/
def portInService (s : State) (p : Port) : Bool := inService s.map.health p

/-- A drive port is required: the part is in RUN and the port is in service (R92). -/
def portRequired (s : State) (d : DrivePort) : Bool := s.osc.part == .run && portInService s (portOfDrive d)

/-- The port becomes supervised with a full deadline, provided that its deadline value is not 0, that it is not
supervised already, and that its controller element is not OUT (R57). -/
def supervise (p : Port) (s : State) : State :=
  if checkInValue s.osc.image p ≠ 0 ∧ s.contact.get p = none ∧ portInService s p = true then
    setContact p (some (checkInValue s.osc.image p)) s
  else s

/-- The envelope allows a drive port's axle. -/
def axleAllowed (v : Envelope) : DrivePort → Bool
  | .front => v.limits.frontDrive
  | .rear => v.limits.rearDrive

/-- The output levels of Table 6.1 for a part state, an envelope and the two permit latches (R102). -/
def outputsOf (part : PartState) (v : Envelope) (frontLatch rearLatch : Bool) : Outputs :=
  { frontEn := part == .run && v.limits.frontDrive && frontLatch
    rearEn := part == .run && v.limits.rearDrive && rearLatch
    regenEn := part == .run && v.limits.regen
    packTrip := part == .failsafe }

/-- The output update of the Permit Stage (R103). -/
def updateOutputs (s : State) : State :=
  { s with
    permit.outputs := outputsOf s.osc.part s.unit.envelope s.unit.adoption.front.latch s.unit.adoption.rear.latch }

/-- Nothing happens to the part while it is held in reset (R104, R158; assumption 9, DEDUCED,
unsafe); otherwise the event is taken. -/
def unlessHeld (f : State → State) (s : State) : State := if s.time.held then s else f s

end Sys2Proof.Machine
end

