-- ==== Sys2Proof/Machine/Envelope.lean ====
section
/-! DEFINITION. The Envelope Unit's operations: the change of the envelope with its effects (R84), the adoption
round (R94), the target recompute (R78, R79) and the publishing step (R87, R90); and the evaluation of the PRIMARY
trial (R138), which a change of the envelope hands to the Recovery Unit. -/

namespace Sys2Proof.Machine

/-! ## The evaluation of the PRIMARY trial -/

/-- The suspension condition of a group for an envelope (Table 8.4). -/
def suspensionHolds (g : Group) (v : Envelope) : Bool :=
  match g with
  | .front => !v.limits.frontDrive
  | .rear => !v.limits.rearDrive
  | .supply | .rider => !v.limits.frontDrive && !v.limits.rearDrive

/-- The evaluation of the PRIMARY trial (R138, Table 8.5). -/
def evaluatePrimary (s : State) : State :=
  match s.recovery.primary with
  | none => s
  | some t =>
      match t.state, suspensionHolds (elementGroup t.element) s.unit.envelope with
      | .running, true =>
          postTrial t.element .suspended { s with recovery.primary := some { t with state := .suspended } }
      | .running, false => s
      | .suspended, true => s
      | .suspended, false =>
          if s.recovery.nested.isSome then s
          else postTrial t.element .resumed { s with recovery.primary := some { t with state := .running } }

/-! ## The change of the envelope -/

/-- The adoption round for one drive port: a required port is marked pending, and its deadline is started if it is
not running (R94). -/
def adoptionRoundFor (d : DrivePort) (s : State) : State :=
  if portRequired s d then
    setAdoption d
      { s.unit.adoption.get d with
        pending := true
        deadline := startIfIdle (s.unit.adoption.get d).deadline (globalConfig s.osc.image).adoption } s
  else s

/-- The adoption round (R94). -/
def adoptionRound (s : State) : State := adoptionRoundFor .rear (adoptionRoundFor .front s)

/-- The permit latch of a drive port is cleared when the envelope does not allow its axle (R84, step 2). -/
def clearForbidden (d : DrivePort) (s : State) : State :=
  if axleAllowed s.unit.envelope d then s
  else setAdoption d { s.unit.adoption.get d with latch := false } s

/-- Steps 1 to 3 of R84: the new fields and the next generation, the latches of forbidden axles cleared, the
ENVELOPE notice posted. -/
def publishEnvelope (v : Envelope) (s : State) : State :=
  postEnvelope (clearForbidden .rear (clearForbidden .front
    { s with unit.envelope := v, unit.generation := s.unit.generation + 1 }))

/-- A change of the envelope to a value, with the effects of R84 in order; nothing when the value is the one that
stands (R83). -/
def changeEnvelope (v : Envelope) (s : State) : State :=
  if v = s.unit.envelope then s
  else updateOutputs (evaluatePrimary (adoptionRound (publishEnvelope v s)))

/-- The state with the dwell timer set. -/
def setDwell (t : Timer) (s : State) : State := { s with unit.dwell := t }

/-! ## The target recompute -/

/-- The publishing step of a recompute in RUN: Table 5.1 when the dwell time is above 0 (R87), the target at once
when it is 0 (R90). -/
def publish (s : State) : State :=
  let env := s.unit.envelope
  let target := s.unit.target.env
  let dwell := (globalConfig s.osc.image).dwell
  let tight := env.tighter target
  if dwell = 0 then changeEnvelope target (setDwell none s)
  else if tight ≠ env then
    if tight = target then changeEnvelope tight (setDwell none s)
    else changeEnvelope tight (setDwell (some dwell) s)
  else if env = target then setDwell none s
  else setDwell (startIfIdle s.unit.dwell dwell) s

/-- The target computed from its inputs as they stand (R79). -/
def computeTarget (s : State) : State :=
  { s with unit.target := targetOf s.osc.image s.map.health s.unit.floors s.table.overflow }

/-- A target recompute (R78): in RUN its target is handed to the publishing step; in the other part states it
changes the target alone (R79, R85). -/
def recompute (s : State) : State :=
  if s.osc.part = .run then publish (computeTarget s) else computeTarget s

end Sys2Proof.Machine
end

