-- ==== Sys2Proof/Machine/Recovery.lean ====
section
/-! DEFINITION. The Element Map's claims (R5 to R13) with their announcements (R15, R16), and the Recovery Unit's
operations on ballots and trials: closing a ballot (R127), starting a trial (R135), passing (R140) and failing
(R141). -/

namespace Sys2Proof.Machine

/-! ## Closing a ballot -/

/-- A ballot closes: the slot is emptied, the BALLOT notices are withdrawn, and the outcome is posted as a TRIAL
notice; a passed ballot, none here, has its trial start post it (R127). -/
def closeBallot (o : Option TrialOutcome) (s : State) : State :=
  match s.recovery.ballot with
  | none => s
  | some b =>
      let s1 := withdrawBallot { s with recovery.ballot := none }
      match o with
      | none => s1
      | some o => postTrial b.element o s1

/-- The open ballot is voided when it names an element whose record is confirmed (R125). -/
def voidIfNamed (e : Element) (s : State) : State :=
  match s.recovery.ballot with
  | none => s
  | some b => if b.element = e then closeBallot (some (.voided .confirmed)) s else s

/-- The open ballot is voided when its consent set holds a port that goes out (R126). -/
def voidIfAsked (p : Port) (s : State) : State :=
  match s.recovery.ballot with
  | none => s
  | some b => if b.consent.get p then closeBallot (some (.voided .portOut)) s else s

/-! ## Announcements -/

/-- The Envelope Unit's reaction to the element-out announcement of a drive port's controller: pending flag,
deadline and latch cleared, the last adopted generation kept, and the output update (R98, R103). -/
def dropAdoption (d : DrivePort) (s : State) : State :=
  updateOutputs (setAdoption d { s.unit.adoption.get d with pending := false, deadline := none, latch := false } s)

/-- The element-out announcement of a port's controller, with every block's reaction (R15, Table 1.7). -/
def announceOut (p : Port) (s : State) : State :=
  let s1 := setFloorOf p none (setContact p none s)
  let s2 := match driveOf p with
    | some d => dropAdoption d s1
    | none => s1
  voidIfAsked p s2

/-- The element-returned announcement of a port's controller (R16, R98). -/
def announceReturned (p : Port) (s : State) : State :=
  let s1 := supervise p s
  match driveOf p with
  | some d =>
      setAdoption d
        { s1.unit.adoption.get d with
          pending := true
          deadline := some (globalConfig s1.osc.image).adoption } s1
  | none => s1

/-- The announcement that a change of an element's health calls for: none but for a controller element that has
entered or left the category OUT. -/
def announce (e : Element) (before after : Health) (s : State) : State :=
  match portOf e with
  | none => s
  | some p =>
      match isOut before, isOut after with
      | false, true => announceOut p s
      | true, false => announceReturned p s
      | _, _ => s

/-- A claim sets an element's health, and its effects are handed out in the order of R5. A claim that leaves the
health as it was hands out none. The class is the detail of the CONFIRMED notice. -/
def changeHealth (e : Element) (h : Health) (c : Option FaultClass) (s : State) : State :=
  if s.map.health.get e = h then s
  else recompute (postConfirmed e c (announce e (s.map.health.get e) h (setHealth e h s)))

/-! ## The claims (Table 1.6) -/

/-- The health after a confirmation claim (R6, R7, R8). An element in TRIAL takes no such claim (R9). -/
def confirmedHealth (h : Health) (a : FaultAction) (retained : Bool) : Health :=
  match h with
  | .trial => .trial
  | .lockedOut => .lockedOut
  | .inService | .degraded | .isolated =>
      if retained then .lockedOut
      else
        match a with
        | .isolate => .isolated
        | .derate => if h = .isolated then .isolated else .degraded

/-- The confirmation claim (R6 to R8). -/
def confirmationClaim (e : Element) (c : FaultClass) (a : FaultAction) (retained : Bool) (s : State) : State :=
  changeHealth e (confirmedHealth (s.map.health.get e) a retained) (some c) s

/-- The outcome of a failed trial (Table 1.5), from the budget after the reduction. -/
def failedHealth (budget : Nat) (a : FaultAction) (retained recorded : Bool) : Health :=
  if retained then .lockedOut
  else if !recorded then .lockedOut
  else if budget = 0 then .lockedOut
  else
    match a with
    | .isolate => .isolated
    | .derate => .degraded

/-- The trial-failed claim (R10). -/
def trialFailedClaim (e : Element) (c : FaultClass) (recorded : Bool) (s : State) : State :=
  let budget := s.map.budget.get e - 1
  let p := classParams s.osc.image c
  changeHealth e (failedHealth budget p.action p.retained recorded) (some c) (setBudget e budget s)

/-- The trial-start claim (R11). -/
def trialStartClaim (e : Element) (s : State) : State :=
  match s.map.health.get e with
  | .isolated | .degraded => changeHealth e .trial none s
  | .inService | .trial | .lockedOut => s

/-- The trial-passed claim (R12). -/
def trialPassedClaim (e : Element) (s : State) : State :=
  if s.map.health.get e = .trial then changeHealth e .inService none s else s

/-- The RUN-entry lockout claim (R13), for an element whose retained entry is locked. -/
def runEntryLockout (e : Element) (s : State) : State :=
  let r := s.retained.entries.get e
  if r.locked && !(s.map.health.get e == .trial) then changeHealth e .lockedOut r.cls s else s

/-! ## Trials -/

/-- The slot that the trial-slot check names (Table 7.5), or the status with which a RELEASE is refused. -/
def slotFor (r : RecoveryUnit) (e : Element) : Except Status TrialSlot :=
  match r.primary, r.nested with
  | none, none => .ok .primary
  | some t, none =>
      match t.state with
      | .running => .error .busy
      | .suspended => if elementGroup t.element = elementGroup e then .error .groupHeld else .ok .nested
  | _, some _ => .error .busy

/-- The record of a new trial (R135, step 1), with its state in the slot (R136). -/
def newTrial (slot : TrialSlot) (e : Element) (s : State) : Trial :=
  let duration := trialDuration s.osc.image (elementGroup e)
  { element := e
    state := if slot = .primary ∧ suspensionHolds (elementGroup e) s.unit.envelope = true then .suspended else .running
    startedAt := s.time.uptime
    duration := duration
    remaining := duration }

/-- A trial record is placed in its slot. -/
def placeTrial (slot : TrialSlot) (t : Trial) (s : State) : State :=
  match slot with
  | .primary => { s with recovery.primary := some t }
  | .nested => { s with recovery.nested := some t }

/-- The removal at trial start: every CONFIRMED record of the element leaves the table (R38). -/
def removeConfirmed (e : Element) (s : State) : State :=
  { s with table.records := s.table.records.filter fun x => !(x.element == e && x.state == .confirmed) }

/-- A trial starts in a slot (R135). -/
def startTrial (slot : TrialSlot) (e : Element) (s : State) : State :=
  trialStartClaim e (removeConfirmed e (postTrial e (.started slot) (placeTrial slot (newTrial slot e s) s)))

/-- The record in a slot. -/
def trialIn (r : RecoveryUnit) : TrialSlot → Option Trial
  | .primary => r.primary
  | .nested => r.nested

/-- A slot is emptied; the NESTED record moves into PRIMARY when PRIMARY ends (R143). -/
def emptySlot (slot : TrialSlot) (s : State) : State :=
  match slot with
  | .primary => { s with recovery.primary := s.recovery.nested, recovery.nested := none }
  | .nested => { s with recovery.nested := none }

/-- The slot that holds an element's trial. -/
def slotOf (r : RecoveryUnit) (e : Element) : Option TrialSlot :=
  if r.primary.any (·.element == e) then some .primary
  else if r.nested.any (·.element == e) then some .nested
  else none

/-- A trial fails on a report on its element (R141); `recorded` is false for the outcome "not recorded" (R9). -/
def failTrial (e : Element) (c : FaultClass) (recorded : Bool) (s : State) : State :=
  let s1 := match slotOf s.recovery e with
    | some slot => emptySlot slot s
    | none => s
  evaluatePrimary (trialFailedClaim e c recorded (postTrial e .failed s1))

/-- A trial passes (R140). -/
def passTrial (slot : TrialSlot) (t : Trial) (s : State) : State :=
  evaluatePrimary (trialPassedClaim t.element (postTrial t.element .passed (emptySlot slot s)))

end Sys2Proof.Machine
end

