-- ==== Sys2Proof/Machine/FaultTable.lean ====
section
/-! DEFINITION. The Fault Table: taking a fault report (R24 to R30, R34), eviction (R28), overflow (R29),
confirmation with its effects (R31, R32), and the lock of a retained entry (R151). -/

namespace Sys2Proof.Machine

/-- The record is of an element and class. -/
def ofPair (e : Element) (c : FaultClass) (x : FaultRecord) : Bool := x.element == e && x.cls == c

/-- The record of an element and class (R20). -/
def findRecord (rs : List FaultRecord) (e : Element) (c : FaultClass) : Option FaultRecord := rs.find? (ofPair e c)

/-- The capacity of the list (R20). -/
def tableCapacity : Nat := 32

/-! ## Scoring -/

/-- The weight that a report adds (R24); of a start-vote report, the weight of an ordinary C5 report (R34). -/
def reportWeight (p : ClassParams) (r : FaultReport) : Nat := if r.origin = .lines then p.confirm else p.weight

/-- A score after a report: the weight added, saturating at 255; a start-vote report raises a SUSPECT record to the
confirm threshold instead (R26, R34). -/
def scoreAfter (p : ClassParams) (r : FaultReport) (x : FaultRecord) : Nat :=
  if r.startVote = true ∧ x.state = .suspect then max x.score p.confirm
  else min 255 (x.score + reportWeight p r)

/-- A report taken into an existing record: steps 1 to 6 of R26. -/
def joinRecord (p : ClassParams) (r : FaultReport) (now : Uptime) (x : FaultRecord) : FaultRecord :=
  { x with
    score := scoreAfter p r x
    origins := x.origins.insert r.origin
    reports := min 65535 (x.reports + 1)
    lastAt := now
    detail := if r.detail.isSome then r.detail else x.detail
    line := if r.origin = .lines ∧ x.line = none then r.line else x.line
    decay := if x.state = .suspect then some p.decay else x.decay }

/-- The record that a report creates (R27, R34). -/
def newRecord (p : ClassParams) (r : FaultReport) (now : Uptime) : FaultRecord :=
  { element := r.element
    cls := r.cls
    state := .suspect
    score := if r.startVote then p.confirm else min 255 (reportWeight p r)
    origins := noOrigins.insert r.origin
    reports := 1
    firstAt := now
    lastAt := now
    confirmedAt := none
    detail := r.detail
    line := if r.origin = .lines then r.line else none
    decay := some p.decay }

/-! ## Confirmation -/

/-- The test for confirmation of a SUSPECT record (R31). -/
def shouldConfirm (p : ClassParams) (health : PerElement Health) (x : FaultRecord) : Bool :=
  decide (p.confirm ≤ x.score) || (decide (2 ≤ p.corroboration) && decide (p.corroboration ≤ x.origins.count)) ||
  health.get x.element == .trial

/-- A record confirmed (R32, step 1). -/
def confirmed (now : Uptime) (x : FaultRecord) : FaultRecord :=
  { x with state := .confirmed, confirmedAt := some now, decay := none }

/-- A retained entry takes a confirmation (R151). -/
def lockedEntry (c : FaultClass) (keyCycles : Nat) (v : RetainedEntry) : RetainedEntry :=
  if v.locked then v
  else { locked := true, cls := some c, keyCycle := some keyCycles, lockCount := min 255 (v.lockCount + 1) }

/-- The Retained Lockout Map takes the confirmation of a retained class (R151). -/
def lockRetained (e : Element) (c : FaultClass) (s : State) : State :=
  setEntry e (lockedEntry c s.retained.keyCycles (s.retained.entries.get e)) s

/-- The record of a pair through a function. -/
def onRecord (e : Element) (c : FaultClass) (f : FaultRecord → FaultRecord) (s : State) : State :=
  { s with table.records := s.table.records.map fun x => if ofPair e c x then f x else x }

/-- The effects of a confirmation that leave the Fault Table: steps 3 to 5 of R32. -/
def handOut (e : Element) (c : FaultClass) (s : State) : State :=
  let p := classParams s.osc.image c
  let s1 := if p.retained then lockRetained e c s else s
  if s.map.health.get e = .trial then failTrial e c true s1
  else confirmationClaim e c p.action p.retained (voidIfNamed e s1)

/-- A record is confirmed, with its effects in the order of R32. -/
def confirmRecord (e : Element) (c : FaultClass) (s : State) : State :=
  handOut e c (postConfirmed e (some c) (onRecord e c (confirmed s.time.uptime) s))

/-- The record of a pair is tested, if it is SUSPECT, and confirmed if the test holds (R26, step 7; R31). -/
def testRecord (e : Element) (c : FaultClass) (s : State) : State :=
  match findRecord s.table.records e c with
  | none => s
  | some x =>
      if x.state = .suspect ∧ shouldConfirm (classParams s.osc.image c) s.map.health x = true then confirmRecord e c s
      else s

/-! ## Room for a record -/

/-- The record is SUSPECT. -/
def isSuspect (x : FaultRecord) : Bool := x.state == .suspect

/-- The lowest score among the SUSPECT records. -/
def lowestSuspect : List FaultRecord → Option Nat
  | [] => none
  | x :: rs =>
      match lowestSuspect rs with
      | none => if isSuspect x then some x.score else none
      | some m => if isSuspect x then some (min x.score m) else some m

/-- The list without the SUSPECT record of lowest score that is nearest position 0 (R28). -/
def evictLowest (rs : List FaultRecord) : List FaultRecord :=
  match lowestSuspect rs with
  | none => rs
  | some m => rs.eraseP fun x => isSuspect x && x.score == m

/-- The record of a report is appended to a list and tested (R27). -/
def appendTo (rs : List FaultRecord) (r : FaultReport) (s : State) : State :=
  testRecord r.element r.cls
    { s with table.records := rs ++ [newRecord (classParams s.osc.image r.cls) r s.time.uptime] }

/-- A report finds no room: overflow is set, with a recompute if it was clear, and a trial of the element fails
"not recorded" (R29). -/
def leaveUnrecorded (r : FaultReport) (s : State) : State :=
  let s1 := if s.table.overflow then s else recompute { s with table.overflow := true }
  if s.map.health.get r.element = .trial then failTrial r.element r.cls false s1 else s1

/-! ## Taking a report -/

/-- A report taken in STARTING or RUN (R25): into the record of its pair (R26), into a new record (R27), after an
eviction (R28), or unrecorded (R29). -/
def takeReport (r : FaultReport) (s : State) : State :=
  match findRecord s.table.records r.element r.cls with
  | some _ =>
      testRecord r.element r.cls
        (onRecord r.element r.cls (joinRecord (classParams s.osc.image r.cls) r s.time.uptime) s)
  | none =>
      if s.table.records.length < tableCapacity then appendTo s.table.records r s
      else if s.table.records.any isSuspect then appendTo (evictLowest s.table.records) r s
      else leaveUnrecorded r s

/-- A fault report handed to the Fault Table: taken in STARTING and RUN, not taken in CONFIG and FAILSAFE (R25). -/
def handReport (r : FaultReport) (s : State) : State := if isRunning s then takeReport r s else s

/-- The result of a report: the state of its pair's record at the end of the taking, NOT_RECORDED when there is
none or when the report was not taken (R30). -/
def reportResult (r : FaultReport) (before after : State) : ReportResult :=
  if isRunning before then
    match findRecord after.table.records r.element r.cls with
    | none => .notRecorded
    | some x =>
        match x.state with
        | .suspect => .suspect
        | .confirmed => .confirmed
  else .notRecorded

/-- A report of one of the device's own monitors on a port's controller element (Table 3.1). -/
def monitorReport (e : Element) (c : FaultClass) : FaultReport :=
  { element := e, cls := c, origin := .monitor, detail := none, line := none, startVote := false }

end Sys2Proof.Machine
end

