-- ==== Sys2Proof/Machine/Lifecycle.lean ====
section
/-! DEFINITION. The part-state machine's operations: FAILSAFE entry (R108 to R110, R172), RUN entry (R171), the
start-vote reports (R34, R170), the resets (R161, R162), and one millisecond of the Time Base (R158, R159). -/

namespace Sys2Proof.Machine

/-! ## FAILSAFE entry -/

/-- The Operating State Controller's own change at FAILSAFE entry: the part state, the cause record, the service
arm (R109, R172). -/
def enterFailsafe (cause : Cause) (s : State) : State :=
  { s with
    osc.part := .failsafe
    osc.arm := false
    osc.cause := { cause := cause, enteredAt := some s.time.uptime, enteredFrom := some s.osc.part } }

/-- Both permit latches cleared (R86). -/
def clearLatches (s : State) : State :=
  { s with
    unit.adoption.front.latch := false
    unit.adoption.rear.latch := false }

/-- The SAFE_STOP demand: the envelope becomes P7 with severity 7, the generation advances if that changes the
envelope, the latches are cleared and the ENVELOPE notice is posted in either case (R86). -/
def demandSafeStop (s : State) : State :=
  let s1 := if s.unit.envelope = safeStop then s
    else { s with unit.envelope := safeStop, unit.generation := s.unit.generation + 1 }
  postEnvelope (clearLatches s1)

/-- A FAILSAFE request: taken in CONFIG, STARTING and RUN, without effect in FAILSAFE (R108, R110). -/
def requestFailsafe (cause : Cause) (s : State) : State :=
  if s.osc.part = .failsafe then s else updateOutputs (demandSafeStop (enterFailsafe cause s))

/-! ## RUN entry -/

/-- The first step of RUN entry: the retained lockouts, E0 to E10, while the part is still in STARTING (R152). -/
def applyLockouts (s : State) : State := allElements.foldl (fun s e => runEntryLockout e s) s

/-- The part state becomes RUN and the start window is discarded (R169, R171). -/
def enterRun (s : State) : State := { s with osc.part := .run, osc.startWindow := none }

/-- The second step of RUN entry: the envelope is set to the target at once, with no dwell, and the ENVELOPE notice
is posted in either case (R85). -/
def firstEnvelope (s : State) : State :=
  let s1 := computeTarget s
  updateOutputs (postEnvelope (changeEnvelope s1.unit.target.env (setDwell none s1)))

/-- RUN entry, its four steps in order (R171). -/
def runEntry (s : State) : State :=
  allPorts.foldl (fun s p => supervise p s) (adoptionRound (firstEnvelope (enterRun (applyLockouts s))))

/-! ## The start vote -/

/-- The start-vote report on a port's controller element (R34). -/
def startVoteReport (p : Port) : FaultReport :=
  { element := controllerOf p, cls := .lossOfContact, origin := .monitor, detail := none, line := none,
    startVote := true }

/-- The start-vote reports at expiry of the start window: one for each port not in the started set, in the order
E2, E5, E7, E10 (R170). -/
def startVoteReports (s : State) : State :=
  (allPorts.filter fun p => !s.osc.started.get p).foldl (fun s p => handReport (startVoteReport p) s) s

/-! ## Resets -/

/-- Every block's reset values, over an image, a configuration port and a retained map that the reset leaves (R19,
R42, R55, R58, R80, R82, R104, R113, R130, R147, R162, R173). The part is held in reset, its uptime does not
advance, and the commands that wait still wait (assumption 9, DESIGN CHOICE, unsafe). -/
def resetBlocks (image : List Byte) (configPort : Port) (retained : RetainedMap) (s : State) : State :=
  { State.reset with
    time := { uptime := s.time.uptime, held := true }
    map.budget := PerElement.of fun e => (elementConfig image e).budget
    unit.target := targetOf image (PerElement.of fun _ => .inService) (PerPort.const none) false
    retained := retained
    osc.image := image
    osc.configPort := configPort
    pending := s.pending }

/-- The configuration port of the strap levels CFGSEL1 and CFGSEL0 (Table 10.3). -/
def strapPort : Bool → Bool → Port
  | false, false => .ride
  | false, true => .pack
  | true, false => .front
  | true, true => .rear

/-- A power-on reset (R161). -/
def powerOn (cfgsel1 cfgsel0 : Bool) (s : State) : State :=
  resetBlocks factoryImage (strapPort cfgsel1 cfgsel0)
    { entries := PerElement.of fun _ => RetainedEntry.reset, keyCycles := 0 } s

/-- A key-cycle reset (R162, R150). -/
def keyCycle (s : State) : State :=
  resetBlocks s.osc.image s.osc.configPort { s.retained with keyCycles := min 65535 (s.retained.keyCycles + 1) } s

/-! ## One millisecond -/

/-- A trial's remaining time counts down while it is RUNNING (R137). -/
def tickTrial (t : Trial) : Trial :=
  match t.state with
  | .running => { t with remaining := t.remaining - 1 }
  | .suspended => t

/-- An adoption record's deadline counts down (R93). -/
def tickAdoption (v : AdoptionRecord) : AdoptionRecord := { v with deadline := tickTimer v.deadline }

/-- One millisecond off every timer of R159 that exists, but for suspended trials (R137; assumption 3, DESIGN CHOICE,
unsafe). -/
def tickTimers (s : State) : State :=
  { s with
    table.records := s.table.records.map fun x => { x with decay := tickTimer x.decay }
    contact := s.contact.map tickTimer
    unit.dwell := tickTimer s.unit.dwell
    unit.adoption := { front := tickAdoption s.unit.adoption.front, rear := tickAdoption s.unit.adoption.rear }
    recovery :=
      { ballot := s.recovery.ballot.map fun b => { b with window := b.window - 1 }
        primary := s.recovery.primary.map tickTrial
        nested := s.recovery.nested.map tickTrial }
    osc.startWindow := tickTimer s.osc.startWindow
    osc.integrity := tickTimer s.osc.integrity }

/-- The uptime advances by 1, wrapping (R158). -/
def tickUptime (s : State) : State := { s with time.uptime := s.time.uptime + 1 }

/-- A millisecond boundary: the uptime advances in every part state (R158), and the timers count but in FAILSAFE,
which freezes them (R111). -/
def tick (s : State) : State :=
  if s.osc.part = .failsafe then tickUptime s else tickTimers (tickUptime s)

end Sys2Proof.Machine
end

