-- ==== Sys2Proof/Machine/Link.lean ====
section
/-! DEFINITION. The link ports' operations: discarding a frame (R176), taking a request (R175), answering it (R177),
and the end of a reply (R173). -/

namespace Sys2Proof.Machine

/-- What a block answers to a request: the state after its effects, a status and a payload (R175, step 3). -/
structure Taken where
  state : State
  status : Status
  payload : List Byte

/-- A request answered OK with a payload. -/
def accept (payload : List Byte) (s : State) : Taken := { state := s, status := .ok, payload := payload }

/-- A request refused: nothing changes, and the reply carries no payload (R177). -/
def refuse (st : Status) (s : State) : Taken := { state := s, status := st, payload := [] }

/-- The service arm cleared when the port is the configuration port (R156). -/
def disarmFrom (p : Port) (s : State) : State := if p = s.osc.configPort then { s with osc.arm := false } else s

/-! ## Discards -/

/-- The port's own part of a discard: the error recorded, LINKERR posted, the buffer emptied; the port returns to
IDLE, but for an OVERLAP, which leaves it REPLYING (R176). -/
def recordError (k : LinkError) (v : LinkPort) : LinkPort :=
  { v with
    lastError := some k
    notices := { v.notices with linkErr := some k }
    buffer := []
    receiver := if k = .overlap then v.receiver else .idle
    overlapped := if k = .overlap then true else v.overlapped }

/-- A discard, its effects in the order of R176; the report of its last step is not taken in CONFIG and FAILSAFE. -/
def discard (p : Port) (k : LinkError) (s : State) : State :=
  handReport (monitorReport (controllerOf p) .frameIntegrity)
    (disarmFrom p (setPort p (recordError k (s.ports.get p)) s))

/-- A byte arrives while the port is REPLYING: an OVERLAP discard for the first such byte of the reply, later bytes
ignored (R173, R176). -/
def overlapByte (p : Port) (s : State) : State := if (s.ports.get p).overlapped then s else discard p .overlap s

/-! ## Requests -/

/-- The request's frame stands whole in the port's buffer (R173, R175), and stays there after it is taken (assumption 7,
DEDUCED, safe). -/
def storeFrame (p : Port) (code : Byte) (payload : List Byte) (s : State) : State :=
  setPort p { s.ports.get p with buffer := requestFrame code payload } s

/-- The reply to a request, its header from the state that the taking has left (R177). -/
def replyOf (p : Port) (code : Byte) (t : Taken) : Reply :=
  { code := code
    status := t.status
    notices := noticeByte (t.state.ports.get p).notices
    generation := t.state.unit.generation
    part := t.state.osc.part
    payload := t.payload }

/-- The port enters REPLYING and sends the reply (R175). -/
def sendReply (p : Port) (code : Byte) (t : Taken) : State :=
  setPort p { t.state.ports.get p with receiver := .replying, reply := some (replyOf p code t), overlapped := false }
    t.state

/-- A complete, checked request frame arrives on a port (R175). While the part is held in reset nothing arrives; on
a port that is REPLYING the frame's bytes overlap the reply (R177); a length above 24 is a LENGTH discard (R174;
assumption 8, DEDUCED, safe).
Otherwise the link port's two checks come first, then the owning block. `disarms` says whether the request clears
the service arm before its own effect when it comes from the configuration port: every request but SERVICE_ARM and
SERVICE_CLEAR, and these too when the link port answers them (R156). -/
def takeRequest (p : Port) (code : Byte) (payload : List Byte) (disarms : Bool) (act : State → Taken) (s : State) :
    State :=
  if s.time.held then s
  else if (s.ports.get p).receiver = .replying then overlapByte p s
  else if maxPayload < payload.length then discard p .length s
  else
    let s1 := storeFrame p code payload s
    if codeKnown code = false then sendReply p code (refuse .unknown (disarmFrom p s1))
    else if lengthAllowed code payload.length = false then sendReply p code (refuse .range (disarmFrom p s1))
    else sendReply p code (act (if disarms then disarmFrom p s1 else s1))

/-- The bytes of a reply on the line (Table 11.2): the header, the length, the payload, and the CRC over them. -/
def replyBytes (r : Reply) : List Byte :=
  let body := [r.code, natByte (statusCode r.status), r.notices] ++ halfBytes r.generation ++
    [natByte (partCode r.part), natByte r.payload.length] ++ r.payload
  body ++ halfBytes (crc16 body)

/-- The last byte of a reply has been sent: the port returns to IDLE (R173). -/
def endReply (p : Port) (s : State) : State :=
  if (s.ports.get p).receiver = .replying then
    setPort p { s.ports.get p with receiver := .idle, reply := none, overlapped := false } s
  else s

/-- The first byte of a frame arrives after a quiet line: in IDLE it starts a frame; in REPLYING it overlaps the
reply; in RECEIVING a quiet line has already discarded the frame, and no such byte arrives (R173, R174). -/
def startFrame (p : Port) (b : Byte) (s : State) : State :=
  match (s.ports.get p).receiver with
  | .idle => setPort p { s.ports.get p with receiver := .receiving, buffer := [b] } s
  | .receiving => s
  | .replying => overlapByte p s

end Sys2Proof.Machine
end

