-- ==== Sys2Proof/Machine/Ballots.lean ====
section
/-! DEFINITION. The family of the release ballots: RELEASE (R117 to R119), CONSENT (R121) and VETO (R122), with the
passing of a ballot (R123). -/

namespace Sys2Proof.Machine

/-! ## Replies (R180) -/

/-- The outcome OPEN with the two sets. -/
def openReply (consent answered : PortSet) : List Byte := [0#8, 0#8, twoPortSets consent answered]

/-- The outcome STARTED with the slot, and the sets as they stood at passing. -/
def startedReply (slot : TrialSlot) (consent answered : PortSet) : List Byte :=
  [1#8, natByte (slotCode slot), twoPortSets consent answered]

/-- The outcome VETOED. -/
def vetoedReply : List Byte := [2#8, 0#8, 0#8]

/-- The outcome VOIDED with reason NO_SLOT. -/
def noSlotReply : List Byte := [3#8, natByte (reasonCode .noSlot), 0#8]

/-! ## Passing (R123) -/

/-- The state with the ballot slot set. -/
def setBallot (b : Option Ballot) (s : State) : State := { s with recovery.ballot := b }

/-- A ballot whose answered set has become its consent set: it closes as passed and its trial starts in the slot
that the trial slots admit, or it closes VOIDED with reason NO_SLOT (R123). -/
def passBallot (b : Ballot) (s : State) : Taken :=
  match slotFor s.recovery b.element with
  | .ok slot => accept (startedReply slot b.consent b.answered) (startTrial slot b.element (closeBallot none s))
  | .error _ => accept noSlotReply (closeBallot (some (.voided .noSlot)) s)

/-! ## RELEASE -/

/-- The consent set of a ballot that opens: the configured consent ports of the element less those out of service
(R116). -/
def consentSet (e : Element) (s : State) : PortSet :=
  let v := (elementConfig s.osc.image e).consent
  { front := v.front && portInService s .front
    rear := v.rear && portInService s .rear
    pack := v.pack && portInService s .pack
    ride := v.ride && portInService s .ride }

/-- The ballot that an accepted RELEASE opens (Table 7.1). -/
def newBallot (p : Port) (e : Element) (s : State) : Ballot :=
  let consent := consentSet e s
  { element := e
    requester := p
    consent := consent
    answered := noPorts.set p (consent.get p)
    openedAt := s.time.uptime
    window := (globalConfig s.osc.image).ballot }

/-- An accepted RELEASE (R119): the ballot opens, and it passes at once or the ports that have not answered are
asked. -/
def openBallot (p : Port) (e : Element) (s : State) : Taken :=
  let b := newBallot p e s
  let s1 := setBallot (some b) s
  if b.answered = b.consent then passBallot b s1
  else accept (openReply b.consent b.answered) (postBallot (portsLess b.consent b.answered) e s1)

/-- RELEASE, its checks in the order of Table 7.4 (R117). -/
def release (p : Port) (element : Byte) (s : State) : Taken :=
  match s.osc.part with
  | .config | .starting => refuse .notRunning s
  | .failsafe => refuse .failsafe s
  | .run =>
      if portInService s p = false then refuse .outOfService s
      else
        match elementOf element with
        | none => refuse .range s
        | some e =>
            if ¬(s.map.health.get e = .isolated ∨ s.map.health.get e = .degraded) then refuse .wrongState s
            else if s.recovery.ballot.isSome then refuse .busy s
            else
              match slotFor s.recovery e with
              | .error st => refuse st s
              | .ok _ =>
                  if s.map.budget.get e = 0 then refuse .noBudget s
                  else if portsEmpty (consentSet e s) then refuse .noQuorum s
                  else openBallot p e s

/-! ## CONSENT and VETO -/

/-- The three checks that CONSENT and VETO share (R121): the ballot that the request may answer, or the refusal. -/
def askedBallot (p : Port) (element : Byte) (s : State) : Except Status Ballot :=
  if s.osc.part = .failsafe then .error .failsafe
  else
    match s.recovery.ballot with
    | none => .error .noBallot
    | some b =>
        if elementOf element ≠ some b.element then .error .noBallot
        else if b.consent.get p = false then .error .notAsked
        else .ok b

/-- A CONSENT taken into the ballot: the port joins the answered set and its BALLOT notice is withdrawn; a complete
ballot passes. A CONSENT from a port already in the answered set changes nothing (R121). -/
def answerBallot (p : Port) (b : Ballot) (s : State) : Taken :=
  if b.answered.get p then accept (openReply b.consent b.answered) s
  else
    let b1 := { b with answered := b.answered.set p true }
    let s1 := onNotices p (fun v => { v with ballot := none }) (setBallot (some b1) s)
    if b1.answered = b1.consent then passBallot b1 s1
    else accept (openReply b1.consent b1.answered) s1

/-- CONSENT (R121). -/
def consent (p : Port) (element : Byte) (s : State) : Taken :=
  match askedBallot p element s with
  | .error st => refuse st s
  | .ok b => answerBallot p b s

/-- VETO (R122). -/
def veto (p : Port) (element : Byte) (s : State) : Taken :=
  match askedBallot p element s with
  | .error st => refuse st s
  | .ok _ => accept vetoedReply (closeBallot (some .vetoed) s)

/-- RELEASE. -/
def execRelease (p : Port) (element : Byte) (s : State) : Host.Outcome State Fault Refusal :=
  .next (takeRequest p 0x30#8 [element] true (release p element) s)

/-- CONSENT. -/
def execConsent (p : Port) (element : Byte) (s : State) : Host.Outcome State Fault Refusal :=
  .next (takeRequest p 0x31#8 [element] true (consent p element) s)

/-- VETO. -/
def execVeto (p : Port) (element : Byte) (s : State) : Host.Outcome State Fault Refusal :=
  .next (takeRequest p 0x32#8 [element] true (veto p element) s)

end Sys2Proof.Machine
end

