-- ==== Sys2Proof/Machine/Service.lean ====
section
/-! DEFINITION. The family of the start vote, the configuration and the service clearance: START (R168, R169),
WRITE_CONFIG (R164, R165), SERVICE_ARM (R154) and SERVICE_CLEAR (R155). -/

namespace Sys2Proof.Machine

/-! ## START -/

/-- The integrity check period, in ms (R167). -/
def integrityPeriod : Nat := 100

/-- The reply of an accepted START: the started set, and the start window's remaining time, 0xFFFF when it is not
running (R168, Table 11.5). -/
def startReply (s : State) : List Byte :=
  portSetByte s.osc.started :: halfBytes (match s.osc.startWindow with
    | some n => BitVec.ofNat 16 n
    | none => 0xFFFF#16)

/-- The first START: STARTING is entered, the digest frozen, the window and the integrity period started (R168). -/
def enterStarting (p : Port) (s : State) : State :=
  { s with
    osc.part := .starting
    osc.arm := false
    osc.frozen := some (digest s.osc.image)
    osc.started := s.osc.started.set p true
    osc.startWindow := some (globalConfig s.osc.image).startWindow
    osc.integrity := some integrityPeriod }

/-- A port joins the started set (R168). -/
def joinStarted (p : Port) (s : State) : State := { s with osc.started := s.osc.started.set p true }

/-- The started set holds all four ports (R169). -/
def allStarted (s : State) : Bool := s.osc.started == PerPort.const true

/-- A START that has passed its checks, by part state and started set (R168, R169). -/
def acceptStart (p : Port) (s : State) : State :=
  if s.osc.part = .config then supervise p (enterStarting p s)
  else if s.osc.started.get p then s
  else
    let s1 := supervise p (joinStarted p s)
    if allStarted s1 then runEntry s1 else s1

/-- The image has been corrupted since STARTING was entered: its digest is no longer the frozen one (R168). -/
def imageCorrupted (s : State) : Bool := s.osc.part == .starting && s.osc.frozen != some (digest s.osc.image)

/-- START, its checks in the order of R168. In STARTING with a corrupted image every START fails check 3, one that names
the corrupted image's digest too. -/
def start (p : Port) (named : Half) (s : State) : Taken :=
  if s.osc.part = .failsafe then refuse .failsafe s
  else if s.osc.part = .run then refuse .wrongState s
  else if named ≠ digest s.osc.image ∨ imageCorrupted s = true then refuse .digestMismatch s
  else accept (startReply (acceptStart p s)) (acceptStart p s)

/-! ## WRITE_CONFIG -/

/-- The effects of a write beyond the entry itself (R165): the budget of an ELEMENT entry reloaded, the target
recomputed after a PROFILE or MODERULE entry. -/
def afterWrite (k : Sect) (i : Nat) (s : State) : State :=
  match k with
  | .element =>
      match allElements[i]? with
      | some e => setBudget e (elementConfig s.osc.image e).budget s
      | none => s
  | .profile | .modeRule => recompute s
  | .cls | .group | .line | .port | .glob => s

/-- A WRITE_CONFIG that has passed its checks: the entry replaced whole, with the write's effects (R165). -/
def acceptWrite (k : Sect) (i : Nat) (entry : List Byte) (s : State) : State :=
  afterWrite k i { s with osc.image := putEntry s.osc.image k i entry }

/-- WRITE_CONFIG, its checks in the order of Table 10.5 (R164). -/
def writeConfig (p : Port) (sect index : Byte) (entry : List Byte) (s : State) : Taken :=
  if s.osc.part = .failsafe then refuse .failsafe s
  else if s.osc.part ≠ .config then refuse .wrongState s
  else if p ≠ s.osc.configPort then refuse .denied s
  else
    match sectOf sect with
    | none => refuse .range s
    | some k =>
        if sectCount k ≤ index.toNat then refuse .range s
        else if fieldsInRange k entry = false then refuse .range s
        else if crossFields k entry = false then refuse .range s
        else accept [] (acceptWrite k index.toNat entry s)

/-! ## SERVICE_ARM and SERVICE_CLEAR -/

/-- The state with the service arm set or cleared. -/
def setArm (v : Bool) (s : State) : State := { s with osc.arm := v }

/-- SERVICE_ARM, its checks in the order of Table 9.2; a refused one leaves the arm as it was (R154). -/
def serviceArm (p : Port) (s : State) : Taken :=
  if s.osc.part = .failsafe then refuse .failsafe s
  else if s.osc.part ≠ .config then refuse .wrongState s
  else if p ≠ s.osc.configPort then refuse .denied s
  else if s.osc.svc = false then refuse .denied s
  else accept [] (setArm true s)

/-- The elements that SERVICE_CLEAR's byte names: one, or all eleven for 0xFF; none for another value (R155). -/
def clearedElements (b : Byte) : Option (List Element) :=
  if b = 0xFF#8 then some allElements else (elementOf b).map fun e => [e]

/-- A retained entry unlocked; class, key cycle at lock and lock count stay (R155). -/
def unlockEntry (e : Element) (s : State) : State :=
  setEntry e { s.retained.entries.get e with locked := false } s

/-- The number of entries of a list of elements that are locked. -/
def lockedCount (es : List Element) (s : State) : Nat := es.countP fun e => (s.retained.entries.get e).locked

/-- An accepted SERVICE_CLEAR, whose arm is clear by now: the entries unlocked, and how many of them were locked. -/
def acceptClear (es : List Element) (s : State) : Taken :=
  accept [natByte (lockedCount es s)] (es.foldl (fun s e => unlockEntry e s) s)

/-- SERVICE_CLEAR, its checks in the order of Table 9.3; from the configuration port it clears the arm, accepted or
refused with RANGE (R155). -/
def serviceClear (p : Port) (which : Byte) (s : State) : Taken :=
  if s.osc.part = .failsafe then refuse .failsafe s
  else if p ≠ s.osc.configPort then refuse .denied s
  else if s.osc.arm = false then refuse .notArmed s
  else
    match clearedElements which with
    | none => refuse .range (setArm false s)
    | some es => acceptClear es (setArm false s)

/-- START. -/
def execStart (p : Port) (named : Half) (s : State) : Host.Outcome State Fault Refusal :=
  .next (takeRequest p 0x40#8 (halfBytes named) true (start p named) s)

/-- WRITE_CONFIG. -/
def execWriteConfig (p : Port) (sect index : Byte) (entry : List Byte) (s : State) :
    Host.Outcome State Fault Refusal :=
  .next (takeRequest p 0x41#8 (sect :: index :: entry) true (writeConfig p sect index entry) s)

/-- SERVICE_ARM. -/
def execServiceArm (p : Port) (s : State) : Host.Outcome State Fault Refusal :=
  .next (takeRequest p 0x48#8 [] false (serviceArm p) s)

/-- SERVICE_CLEAR. -/
def execServiceClear (p : Port) (which : Byte) (s : State) : Host.Outcome State Fault Refusal :=
  .next (takeRequest p 0x49#8 [which] false (serviceClear p which) s)

end Sys2Proof.Machine
end

