-- ==== Sys2Proof/Machine/Expiries.lean ====
section
/-! DEFINITION. The family of the timer expiries. Each takes place when its timer exists, is not frozen, and has no
time left (R159); otherwise the expiry does not take place and changes nothing (R37, R61, R99, R124; assumption 8,
DEDUCED, safe). Timers hold whole milliseconds (assumption 3, DESIGN CHOICE, unsafe). Decay timers,
check-in deadlines and the integrity period run in STARTING and RUN (R41, R43, R167). -/

namespace Sys2Proof.Machine

/-- The part is in RUN, where alone the dwell, the adoption deadlines, the ballot window and the trials run (R88, R92,
R114, R145); FAILSAFE freezes them (R111). -/
def inRun (s : State) : Bool := s.osc.part == .run

/-- The score of a record falls by 1 and its timer restarts (R36). -/
def decayRecord (p : ClassParams) (x : FaultRecord) : FaultRecord :=
  { x with score := x.score - 1, decay := some p.decay }

/-- The record of a pair leaves the list (R20). -/
def removeRecord (e : Element) (c : FaultClass) (s : State) : State :=
  { s with table.records := s.table.records.eraseP (ofPair e c) }

/-- The effect of a decay expiry on the record of a pair (R36). -/
def takeDecay (e : Element) (c : FaultClass) (x : FaultRecord) (s : State) : State :=
  let p := classParams s.osc.image c
  if x.score - 1 ≤ p.clear then removeRecord e c s else onRecord e c (decayRecord p) s

/-- DECAY_EXPIRY (R36). -/
def decayExpiry (e : Element) (c : FaultClass) (s : State) : State :=
  match findRecord s.table.records e c with
  | none => s
  | some x => if isRunning s && ranOut x.decay && x.state == .suspect then takeDecay e c x s else s

/-- CHECK_IN_DEADLINE_EXPIRY: the timer is loaded again, and the report is made (R60). A port whose deadline value a
corruption of the image has set to 0 while it was supervised stays supervised, is loaded with 0, and is reported at each
expiry: R60 where R56 says that a port of value 0 makes no reports (assumption 6, DESIGN CHOICE, unsafe). -/
def checkInDeadlineExpiry (p : Port) (s : State) : State :=
  if isRunning s && ranOut (s.contact.get p) then
    handReport (monitorReport (controllerOf p) .lossOfContact) (setContact p (some (checkInValue s.osc.image p)) s)
  else s

/-- DWELL_EXPIRY: the envelope is set to the target and the dwell is not running (R89). -/
def dwellExpiry (s : State) : State :=
  if inRun s && ranOut s.unit.dwell then changeEnvelope s.unit.target.env (setDwell none s) else s

/-- After the report of an adoption lapse: a port that is still in service and pending, because the report was not
recorded, has its deadline started again (R97; assumption 11, DEDUCED, unsafe). -/
def restartAdoption (d : DrivePort) (s : State) : State :=
  let v := s.unit.adoption.get d
  if portInService s (portOfDrive d) && v.pending then
    setAdoption d { v with deadline := some (globalConfig s.osc.image).adoption } s
  else s

/-- ADOPTION_DEADLINE_EXPIRY: the deadline is not running, and the report is made (R97). -/
def adoptionDeadlineExpiry (d : DrivePort) (s : State) : State :=
  if inRun s && ranOut (s.unit.adoption.get d).deadline then
    restartAdoption d
      (handReport (monitorReport (controllerOf (portOfDrive d)) .adoptionLapse)
        (setAdoption d { s.unit.adoption.get d with deadline := none } s))
  else s

/-- BALLOT_WINDOW_EXPIRY: the ballot closes LAPSED (R124). -/
def ballotWindowExpiry (s : State) : State :=
  match s.recovery.ballot with
  | none => s
  | some b => if inRun s && b.window == 0 then closeBallot (some .lapsed) s else s

/-- TRIAL_EXPIRY: the trial passes (R137, R140). -/
def trialExpiry (slot : TrialSlot) (s : State) : State :=
  match trialIn s.recovery slot with
  | none => s
  | some t => if inRun s && t.state == .running && t.remaining == 0 then passTrial slot t s else s

/-- START_WINDOW_EXPIRY: the start-vote reports, then RUN entry, which discards the window (R170). -/
def startWindowExpiry (s : State) : State :=
  if s.osc.part == .starting && ranOut s.osc.startWindow then runEntry (startVoteReports s) else s

/-- The integrity check: a digest that differs from the frozen one requests FAILSAFE (R167). -/
def checkIntegrity (s : State) : State :=
  if s.osc.frozen = some (digest s.osc.image) then s else requestFailsafe .configIntegrity s

/-- INTEGRITY_CHECK_EXPIRY: the period reloads and the check is made (R167). -/
def integrityCheckExpiry (s : State) : State :=
  if isRunning s && ranOut s.osc.integrity then checkIntegrity { s with osc.integrity := some integrityPeriod } else s

/-- DECAY_EXPIRY. -/
def execDecayExpiry (e : Element) (c : FaultClass) (s : State) : Host.Outcome State Fault Refusal :=
  .next (unlessHeld (decayExpiry e c) s)

/-- CHECK_IN_DEADLINE_EXPIRY. -/
def execCheckInDeadlineExpiry (p : Port) (s : State) : Host.Outcome State Fault Refusal :=
  .next (unlessHeld (checkInDeadlineExpiry p) s)

/-- DWELL_EXPIRY. -/
def execDwellExpiry (s : State) : Host.Outcome State Fault Refusal :=
  .next (unlessHeld dwellExpiry s)

/-- ADOPTION_DEADLINE_EXPIRY. -/
def execAdoptionDeadlineExpiry (d : DrivePort) (s : State) : Host.Outcome State Fault Refusal :=
  .next (unlessHeld (adoptionDeadlineExpiry d) s)

/-- BALLOT_WINDOW_EXPIRY. -/
def execBallotWindowExpiry (s : State) : Host.Outcome State Fault Refusal :=
  .next (unlessHeld ballotWindowExpiry s)

/-- TRIAL_EXPIRY. -/
def execTrialExpiry (slot : TrialSlot) (s : State) : Host.Outcome State Fault Refusal :=
  .next (unlessHeld (trialExpiry slot) s)

/-- START_WINDOW_EXPIRY. -/
def execStartWindowExpiry (s : State) : Host.Outcome State Fault Refusal :=
  .next (unlessHeld startWindowExpiry s)

/-- INTEGRITY_CHECK_EXPIRY. -/
def execIntegrityCheckExpiry (s : State) : Host.Outcome State Fault Refusal :=
  .next (unlessHeld integrityCheckExpiry s)

end Sys2Proof.Machine
end

