-- ==== Sys2Proof/Machine/LinkEvents.lean ====
section
/-! DEFINITION. The family of the line's events: UNKNOWN_REQUEST (R175), FRAME_DISCARD (R176), GAP_DISCARD (R174),
REPLY_COMPLETE and FRAME_START (R173). -/

namespace Sys2Proof.Machine

/-- UNKNOWN_REQUEST: the link port answers UNKNOWN or RANGE. A frame whose code is known and whose length its code
allows is no UNKNOWN_REQUEST, and this event does not take place (assumption 8, DEDUCED, safe). -/
def unknownRequest (p : Port) (code : Byte) (payload : List Byte) (s : State) : State :=
  if lengthAllowed code payload.length then s
  else takeRequest p code payload true (fun s => refuse .range s) s

/-- FRAME_DISCARD, by its kind and the receiver state. A STOP, LENGTH or CRC discard ends a frame that is being
received, or one whose first byte has come with the command; on a port that is REPLYING the bytes overlap the reply
instead. An OVERLAP discard takes place while REPLYING alone (R173, R176). -/
def frameDiscard (p : Port) (kind : FrameError) (s : State) : State :=
  match (s.ports.get p).receiver, kind with
  | .replying, _ => overlapByte p s
  | .idle, .overlap => s
  | .receiving, .overlap => s
  | .idle, k => discard p (frameErrorKind k) s
  | .receiving, k => discard p (frameErrorKind k) s

/-- GAP_DISCARD: the discard of an unfinished frame, while RECEIVING alone (R174). -/
def gapDiscard (p : Port) (s : State) : State :=
  if (s.ports.get p).receiver = .receiving then discard p .gap s else s

/-- UNKNOWN_REQUEST. -/
def execUnknownRequest (p : Port) (code : Byte) (payload : List Byte) (s : State) :
    Host.Outcome State Fault Refusal :=
  .next (unknownRequest p code payload s)

/-- FRAME_DISCARD. -/
def execFrameDiscard (p : Port) (kind : FrameError) (s : State) : Host.Outcome State Fault Refusal :=
  .next (unlessHeld (frameDiscard p kind) s)

/-- GAP_DISCARD. -/
def execGapDiscard (p : Port) (s : State) : Host.Outcome State Fault Refusal :=
  .next (unlessHeld (gapDiscard p) s)

/-- REPLY_COMPLETE. -/
def execReplyComplete (p : Port) (s : State) : Host.Outcome State Fault Refusal :=
  .next (unlessHeld (endReply p) s)

/-- FRAME_START. -/
def execFrameStart (p : Port) (b : Byte) (s : State) : Host.Outcome State Fault Refusal :=
  .next (unlessHeld (startFrame p b) s)

end Sys2Proof.Machine
end

