-- ==== Sys2Proof/Machine/Reads.lean ====
section
/-! DEFINITION. The family of the reads: READ_STATUS (R181), READ_ENVELOPE (R101, R182), READ_ELEMENT (R18),
READ_FAULT (R40), READ_RETAINED (R157), READ_NOTICE (R179) and READ_CONFIG (R165). Each block's answer stands
first, then the meaning of the command. -/

namespace Sys2Proof.Machine

/-! ## READ_STATUS (Table 11.7) -/

/-- The flags byte of page 0: overflow, SVC level, service arm, ballot open, and the configuration port in bits 4
to 5. -/
def statusFlags (s : State) : Byte :=
  flagByte [s.table.overflow, s.osc.svc, s.osc.arm, s.recovery.ballot.isSome] |||
  (natByte (portCode s.osc.configPort) <<< 4)

/-- The cause byte of page 0: the cause, and entered_from or 0xF while absent. -/
def causeByte (c : CauseRecord) : Byte :=
  nibbles (causeCode c.cause) (match c.enteredFrom with | some part => partCode part | none => 0xF)

/-- Page 0: the part-level values and this port's last link-error kind. -/
def statusPage0 (p : Port) (s : State) : List Byte :=
  uptimeBytes s.time.uptime ++ [natByte s.table.records.length, statusFlags s, causeByte s.osc.cause] ++
  uptimeBytes (s.osc.cause.enteredAt.getD 0#32) ++ natBytes s.retained.keyCycles ++
  [natByte (linkErrorCode (s.ports.get p).lastError), flagByte (outputFlags s.permit.outputs)]

/-- Page 1: the ballot summary (R131). -/
def statusPage1 (s : State) : List Byte :=
  match s.recovery.ballot with
  | none => List.replicate 10 0#8
  | some b =>
      [1#8, natByte (elementCode b.element), natByte (portCode b.requester), twoPortSets b.consent b.answered] ++
      uptimeBytes b.openedAt ++ natBytes b.window

/-- The ten bytes of a trial slot (R148); `holds` is the suspension condition, given for PRIMARY only. A duration and a
remaining time above 65,535 ms, of a trial started from a GROUP entry that a corruption has left above its range, are
shown by their low 16 bits (assumption 6, DESIGN CHOICE, unsafe). -/
def slotBytes (holds : Bool) : Option Trial → List Byte
  | none => List.replicate 10 0#8
  | some t =>
      [flagByte [true, t.state == .suspended, holds], natByte (elementCode t.element)] ++ uptimeBytes t.startedAt ++
      natBytes t.duration ++ natBytes t.remaining

/-- The suspension condition holds for the PRIMARY trial and the envelope as it stands (R148). -/
def primaryHolds (s : State) : Bool :=
  match s.recovery.primary with
  | none => false
  | some t => suspensionHolds (elementGroup t.element) s.unit.envelope

/-- Page 2: the two trial slots. -/
def statusPage2 (s : State) : List Byte :=
  slotBytes (primaryHolds s) s.recovery.primary ++ slotBytes false s.recovery.nested

/-- READ_STATUS: page 0, 1 or 2; another value is RANGE (Table 11.5). -/
def readStatus (p : Port) (page : Byte) (s : State) : Taken :=
  match page.toNat with
  | 0 => accept (statusPage0 p s) s
  | 1 => accept (statusPage1 s) s
  | 2 => accept (statusPage2 s) s
  | _ => refuse .range s

/-! ## READ_ENVELOPE (Table 11.8) -/

/-- The code of a timer that FAILSAFE freezes: 0 not running, 1 running, 2 frozen. -/
def timerCode (part : PartState) : Timer → Nat
  | none => 0
  | some _ => if part = .failsafe then 2 else 1

/-- The four bytes of a drive port's adoption record. -/
def adoptionBytes (d : DrivePort) (s : State) : List Byte :=
  let v := s.unit.adoption.get d
  [flagByte [portRequired s d, v.pending] ||| (natByte (timerCode s.osc.part v.deadline) <<< 2) |||
      flagByte [false, false, false, false, v.latch, v.lastAdopted.isSome]] ++
  halfBytes (v.lastAdopted.getD 0#16) ++ [natByte (v.deadline.getD 0)]

/-- The three caps and the allowance byte of an envelope value. -/
def envelopeBytes (v : Envelope) : List Byte :=
  [natByte v.limits.frontCap, natByte v.limits.rearCap, natByte v.limits.speedCap, allowanceByte v]

/-- READ_ENVELOPE (R101, R182). A dwell that was started from a GLOBAL entry which a corruption has left above its range
can have more than 65,535 ms left, and the two bytes then show the low 16 bits of it (assumption 6, DESIGN CHOICE,
unsafe: the spec does not say what they show). -/
def readEnvelope (s : State) : Taken :=
  let t := s.unit.target
  accept (envelopeBytes s.unit.envelope ++ envelopeBytes t.env ++ halfBytes (ruleBits t.matched) ++
    [nibbles (floorCode t.floors.front) (floorCode t.floors.rear),
      nibbles (floorCode t.floors.pack) (floorCode t.floors.ride),
      flagByte [t.overflowDemand, t.cuts.front, t.cuts.rear, t.cuts.supply],
      flagByte (outputFlags s.permit.outputs) ||| (natByte (timerCode s.osc.part s.unit.dwell) <<< 4)] ++
    natBytes (s.unit.dwell.getD 0) ++ adoptionBytes .front s ++ adoptionBytes .rear s) s

/-! ## READ_ELEMENT, READ_FAULT, READ_RETAINED -/

/-- The number of records of an element (Table 1.8). -/
def recordsOf (rs : List FaultRecord) (e : Element) : Nat := rs.countP fun x => x.element == e

/-- READ_ELEMENT (R18). -/
def readElement (b : Byte) (s : State) : Taken :=
  match elementOf b with
  | none => refuse .range s
  | some e =>
      accept [b, natByte (healthCode (s.map.health.get e)), natByte (s.map.budget.get e),
        natByte (elementConfig s.osc.image e).budget, flagByte [(s.retained.entries.get e).locked],
        natByte (recordsOf s.table.records e)] s

/-- Bytes 2 to 23 of READ_FAULT for a record (Table 11.6). -/
def recordBytes (x : FaultRecord) : List Byte :=
  [nibbles (classCode x.cls) (elementCode x.element), natByte x.score, originsByte x.origins] ++ natBytes x.reports ++
  uptimeBytes x.firstAt ++ uptimeBytes x.lastAt ++ uptimeBytes (x.confirmedAt.getD 0#32) ++
  halfBytes (x.detail.getD 0#16) ++ [natByte ((x.line.map lineCode).getD 0)] ++ natBytes (x.decay.getD 0)

/-- The flags of READ_FAULT, bit 1 on, for a record (Table 11.6, byte 1). -/
def recordFlags (x : FaultRecord) : List Bool :=
  [true, x.state == .confirmed, x.confirmedAt.isSome, x.detail.isSome, x.line.isSome, x.decay.isSome]

/-- READ_FAULT (R40). -/
def readFault (position : Byte) (s : State) : Taken :=
  if 31 < position.toNat then refuse .range s
  else
    match s.table.records[position.toNat]? with
    | none => accept ([natByte s.table.records.length, flagByte [s.table.overflow]] ++ List.replicate 22 0#8) s
    | some x =>
        accept ([natByte s.table.records.length, flagByte (s.table.overflow :: recordFlags x)] ++ recordBytes x) s

/-- READ_RETAINED (R157, Table 11.5). -/
def readRetained (b : Byte) (s : State) : Taken :=
  match elementOf b with
  | none => refuse .range s
  | some e =>
      let v := s.retained.entries.get e
      accept ([b, flagByte [v.locked, v.cls.isSome, v.keyCycle.isSome], natByte ((v.cls.map classCode).getD 0)] ++
        natBytes (v.keyCycle.getD 0) ++ [natByte v.lockCount] ++ natBytes s.retained.keyCycles) s

/-! ## READ_NOTICE (Table 11.4) -/

/-- The time left on the ballot window, 0 with no ballot open (R120). -/
def windowLeft (r : RecoveryUnit) : Nat :=
  match r.ballot with
  | none => 0
  | some b => b.window

/-- The class code and detail of the pending class of highest priority, and the set without that class (R179). -/
def nextNotice (r : RecoveryUnit) (v : NoticeSet) : List Byte × NoticeSet :=
  match v with
  | { envelope := some g, .. } => ([1#8] ++ halfBytes g ++ [0#8], { v with envelope := none })
  | { ballot := some e, .. } => ([2#8, natByte (elementCode e)] ++ natBytes (windowLeft r), { v with ballot := none })
  | { confirmed := some (e, c), .. } =>
      ([3#8, natByte (elementCode e), natByte ((c.map classCode).getD 0xFF), 0#8], { v with confirmed := none })
  | { trial := some (e, o), .. } =>
      ([4#8, natByte (elementCode e), natByte (outcomeCode o).1, natByte (outcomeCode o).2], { v with trial := none })
  | { linkErr := some k, .. } => ([5#8, natByte (linkErrorCode (some k)), 0#8, 0#8], { v with linkErr := none })
  | _ => ([0#8, 0#8, 0#8, 0#8], v)

/-- READ_NOTICE (R179). -/
def readNotice (p : Port) (s : State) : Taken :=
  accept (nextNotice s.recovery (s.ports.get p).notices).1
    (onNotices p (fun v => (nextNotice s.recovery v).2) s)

/-! ## READ_CONFIG -/

/-- The entry that READ_CONFIG returns for a section and index: the image's, the fixed ones of C7 and P7, or the
digests; none for any other (R165, R183). -/
def configEntry (sect index : Byte) (s : State) : Option (List Byte) :=
  if sect = 8#8 then
    if index = 0#8 then
      some (halfBytes (digest s.osc.image) ++ [flagByte [s.osc.frozen.isSome]] ++ halfBytes (s.osc.frozen.getD 0#16))
    else none
  else
    match sectOf sect with
    | none => none
    | some k =>
        if index.toNat < sectCount k then some (entryAt s.osc.image k index.toNat)
        else if k = .cls ∧ index = 7#8 then some (classEntry adoptionLapseParams)
        else if k = .profile ∧ index = 7#8 then some (profileEntry safeStopLimits)
        else none

/-- READ_CONFIG (R165). -/
def readConfig (sect index : Byte) (s : State) : Taken :=
  match configEntry sect index s with
  | none => refuse .range s
  | some entry => accept (sect :: index :: entry) s

/-! ## The meanings -/

/-- READ_STATUS. -/
def execReadStatus (p : Port) (page : Byte) (s : State) : Host.Outcome State Fault Refusal :=
  .next (takeRequest p 0x10#8 [page] true (readStatus p page) s)

/-- READ_ENVELOPE. -/
def execReadEnvelope (p : Port) (s : State) : Host.Outcome State Fault Refusal :=
  .next (takeRequest p 0x11#8 [] true readEnvelope s)

/-- READ_ELEMENT. -/
def execReadElement (p : Port) (e : Byte) (s : State) : Host.Outcome State Fault Refusal :=
  .next (takeRequest p 0x12#8 [e] true (readElement e) s)

/-- READ_FAULT. -/
def execReadFault (p : Port) (position : Byte) (s : State) : Host.Outcome State Fault Refusal :=
  .next (takeRequest p 0x13#8 [position] true (readFault position) s)

/-- READ_RETAINED. -/
def execReadRetained (p : Port) (e : Byte) (s : State) : Host.Outcome State Fault Refusal :=
  .next (takeRequest p 0x14#8 [e] true (readRetained e) s)

/-- READ_NOTICE. -/
def execReadNotice (p : Port) (s : State) : Host.Outcome State Fault Refusal :=
  .next (takeRequest p 0x15#8 [] true (readNotice p) s)

/-- READ_CONFIG. -/
def execReadConfig (p : Port) (sect index : Byte) (s : State) : Host.Outcome State Fault Refusal :=
  .next (takeRequest p 0x16#8 [sect, index] true (readConfig sect index) s)

end Sys2Proof.Machine
end

