-- ==== Sys2Proof/Machine/Requests.lean ====
section
/-! DEFINITION. The family of the controllers' evidence and limits: CHECK_IN (R59), REPORT (R45 to R48), SET_FLOOR
(R71) and ADOPT (R95, R96). -/

namespace Sys2Proof.Machine

/-- CHECK_IN: a supervised port's deadline timer is loaded with the full value; otherwise no effect (R59). The full value
of a port supervised before a corruption set its value to 0 is that 0 (assumption 6, DESIGN CHOICE, unsafe). -/
def checkIn (p : Port) (s : State) : Taken :=
  if s.osc.part = .failsafe then refuse .failsafe s
  else if (s.contact.get p).isSome then accept [] (setContact p (some (checkInValue s.osc.image p)) s)
  else accept [] s

/-- The status of a request that wants STARTING or RUN (Tables 3.3 and 4.6, check 1); none in these two. -/
def notRunning (s : State) : Option Status :=
  match s.osc.part with
  | .config => some .notRunning
  | .failsafe => some .failsafe
  | .starting | .run => none

/-- The fault report of an accepted REPORT (R47). -/
def portReport (p : Port) (e : Element) (c : FaultClass) (detail : Option Half) : FaultReport :=
  { element := e, cls := c, origin := originOf p, detail := detail, line := none, startVote := false }

/-- An accepted REPORT is handed to the Fault Table, and the reply carries the result (R47). -/
def acceptReport (r : FaultReport) (s : State) : Taken :=
  accept [natByte (resultCode (reportResult r s (handReport r s)))] (handReport r s)

/-- REPORT, its checks in the order of Table 3.3 (R45). -/
def report (p : Port) (element cls : Byte) (detail : Option Half) (s : State) : Taken :=
  match notRunning s with
  | some st => refuse st s
  | none =>
      if portInService s p = false then refuse .outOfService s
      else
        match elementOf element, reportableClassOf cls with
        | some e, some c =>
            if (elementConfig s.osc.image e).rights.get p = false then refuse .denied s
            else acceptReport (portReport p e c detail) s
        | _, _ => refuse .range s

/-- The floor request that a profile asks for: none for P0 (R71). -/
def floorOf (f : ProfileId) : Option ProfileId := if f = .normal then none else some f

/-- An accepted SET_FLOOR: the floor replaced, with a recompute if it has changed (R71). -/
def acceptFloor (p : Port) (f : Option ProfileId) (s : State) : Taken :=
  let s1 := if s.unit.floors.get p = f then s else recompute (setFloorOf p f s)
  accept [natByte (floorCode f), natByte s1.unit.target.env.severity] s1

/-- SET_FLOOR, its checks in the order of Table 4.6 (R71). -/
def setFloor (p : Port) (profile : Byte) (s : State) : Taken :=
  match notRunning s with
  | some st => refuse st s
  | none =>
      if portInService s p = false then refuse .outOfService s
      else
        match profileOf profile with
        | none => refuse .range s
        | some f => acceptFloor p (floorOf f) s

/-- The adoption record after an accepted ADOPT (R96). -/
def adopted (allowed : Bool) (generation : Half) : AdoptionRecord :=
  { lastAdopted := some generation, pending := false, deadline := none, latch := allowed }

/-- An accepted ADOPT: the adoption record and the output update (R96, R103). -/
def acceptAdopt (d : DrivePort) (s : State) : Taken :=
  let s1 := updateOutputs
    (setAdoption d (adopted (axleAllowed s.unit.envelope d) s.unit.generation) s)
  accept (halfBytes s1.unit.generation ++ [flagByte [(s1.unit.adoption.get d).latch]]) s1

/-- ADOPT, its checks in the order of Table 5.3 (R95). -/
def adopt (p : Port) (generation : Half) (s : State) : Taken :=
  match s.osc.part with
  | .config | .starting => refuse .notRunning s
  | .failsafe => refuse .failsafe s
  | .run =>
      match driveOf p with
      | none => refuse .denied s
      | some d =>
          if portInService s p = false then refuse .outOfService s
          else if generation ≠ s.unit.generation then refuse .stale s
          else acceptAdopt d s

/-- CHECK_IN. -/
def execCheckIn (p : Port) (s : State) : Host.Outcome State Fault Refusal :=
  .next (takeRequest p 0x20#8 [] true (checkIn p) s)

/-- The payload of a REPORT: two bytes, or four with a detail (R44). -/
def reportPayload (element cls : Byte) (detail : Option Half) : List Byte :=
  match detail with
  | none => [element, cls]
  | some d => [element, cls] ++ halfBytes d

/-- REPORT. -/
def execReport (p : Port) (element cls : Byte) (detail : Option Half) (s : State) :
    Host.Outcome State Fault Refusal :=
  .next (takeRequest p 0x21#8 (reportPayload element cls detail) true (report p element cls detail) s)

/-- SET_FLOOR. -/
def execSetFloor (p : Port) (profile : Byte) (s : State) : Host.Outcome State Fault Refusal :=
  .next (takeRequest p 0x22#8 [profile] true (setFloor p profile) s)

/-- ADOPT. -/
def execAdopt (p : Port) (generation : Half) (s : State) : Host.Outcome State Fault Refusal :=
  .next (takeRequest p 0x23#8 (halfBytes generation) true (adopt p generation) s)

end Sys2Proof.Machine
end

