-- ==== Sys2Proof/Machine/Resets.lean ====
section
/-! DEFINITION. The family of the resets: POWER_ON_RESET (R161), KEY_CYCLE_RESET (R162) and RESET_END (R160). -/

namespace Sys2Proof.Machine

/-- The end of a reset: the part leaves reset in CONFIG, with uptime 0 (R158, R160). -/
def endReset (s : State) : State := { s with time := { uptime := 0#32, held := false } }

/-- POWER_ON_RESET: taken whenever VDD rises, in reset too (R161). -/
def execPowerOnReset (cfgsel1 cfgsel0 : Bool) (s : State) : Host.Outcome State Fault Refusal :=
  .next (powerOn cfgsel1 cfgsel0 s)

/-- KEY_CYCLE_RESET: taken once a reset has ended; KEYRST_N does not fall again while it holds the part in reset,
and its level at the end of a power-on reset makes no key-cycle reset (R161, R162). -/
def execKeyCycleReset (s : State) : Host.Outcome State Fault Refusal :=
  .next (unlessHeld keyCycle s)

/-- RESET_END: takes place while the part is held in reset (R160). -/
def execResetEnd (s : State) : Host.Outcome State Fault Refusal :=
  .next (if s.time.held then endReset s else s)

end Sys2Proof.Machine
end

