-- ==== Sys2Proof/Machine/Samples.lean ====
section
/-! DEFINITION. The family of the sampled inputs and the clock: the fault lines (R50 to R54), the readback inputs
(R105, R106), SVC (R153, R156), the millisecond boundary (R158) and the corruption of the image's storage (R167).
A sample that carries its level is taken by the rule of its input, whatever follows from it; a row that names what a
sample brings about takes place when that sample would bring it about (assumption 8, DEDUCED, safe). -/

namespace Sys2Proof.Machine

/-! ## Fault lines -/

/-- A line is sampled: it is enabled, and the part is in STARTING or RUN (R50). -/
def lineSampled (l : FaultLine) (s : State) : Bool := isRunning s && (lineConfig s.osc.image l).enabled

/-- A level is the line's active level, by its polarity (Table 3.5). -/
def lineActive (v : LineConfig) (high : Bool) : Bool := high != v.low

/-- A transition from a reference level to a level is in the line's configured direction (R53). -/
def edgeSeen (v : LineConfig) (reference high : Bool) : Bool :=
  if v.low then reference && !high else !reference && high

/-- The report of a line (R52, R54). -/
def lineReport (l : FaultLine) (v : LineConfig) : FaultReport :=
  { element := v.element, cls := v.cls, origin := .lines, detail := none, line := some l, startVote := false }

/-- The sample would change a LEVEL line's qualification: it is at the changing level, and the run count reaches the
filter count (Table 3.6). -/
def completesRun (v : LineConfig) (f : LineFilter) (active : Bool) : Bool :=
  active != f.qualified && decide (v.filter ≤ f.run + 1)

/-- The filter state of a LEVEL line after a sample (Table 3.6). -/
def levelFilter (v : LineConfig) (f : LineFilter) (active : Bool) : LineFilter :=
  if active = f.qualified then { f with run := 0 }
  else if completesRun v f active then { f with qualified := active, run := 0 }
  else { f with run := f.run + 1 }

/-- One sample of a LEVEL line, with its report when the line becomes QUALIFIED (R51, R52). -/
def sampleLevel (l : FaultLine) (high : Bool) (s : State) : State :=
  let v := lineConfig s.osc.image l
  let f := s.lines.get l
  let active := lineActive v high
  let s1 := setLine l (levelFilter v f active) s
  if active && completesRun v f active then handReport (lineReport l v) s1 else s1

/-- One sample of an EDGE line, with its report at a transition in the configured direction (R53). A line keeps its
LEVEL state (qualification and run count) and its EDGE state (reference level) side by side: one whose mode a corruption
of the image has flipped goes on from the state of its new mode, so that a LEVEL line turned EDGE takes its next sample
as its first (assumption 6, DESIGN CHOICE, unsafe: the spec does not say what such a line starts from). -/
def sampleEdge (l : FaultLine) (high : Bool) (s : State) : State :=
  let v := lineConfig s.osc.image l
  let f := s.lines.get l
  let s1 := setLine l { f with reference := some high } s
  match f.reference with
  | none => s1
  | some r => if edgeSeen v r high then handReport (lineReport l v) s1 else s1

/-- One sample of a line, by its mode; none of a line that is not sampled (R50). -/
def sampleLine (l : FaultLine) (high : Bool) (s : State) : State :=
  if lineSampled l s then
    match (lineConfig s.osc.image l).mode with
    | .level => sampleLevel l high s
    | .edge => sampleEdge l high s
  else s

/-- LINE_QUALIFY: the active sample that completes the filter count of an UNQUALIFIED line (R52). -/
def lineQualify (l : FaultLine) (s : State) : State :=
  let v := lineConfig s.osc.image l
  let f := s.lines.get l
  if v.mode == .level && !f.qualified && completesRun v f true then sampleLine l (!v.low) s else s

/-- LINE_UNQUALIFY: the inactive sample that completes the filter count of a QUALIFIED line (R51). -/
def lineUnqualify (l : FaultLine) (s : State) : State :=
  let v := lineConfig s.osc.image l
  let f := s.lines.get l
  if v.mode == .level && f.qualified && completesRun v f false then sampleLine l v.low s else s

/-- LINE_EDGE: the sample of an EDGE line that shows a transition in the configured direction (R53). -/
def lineEdge (l : FaultLine) (s : State) : State :=
  let v := lineConfig s.osc.image l
  if v.mode == .edge && (s.lines.get l).reference == some v.low then sampleLine l (!v.low) s else s

/-! ## Readback -/

/-- The level driven on a drive permit (R105). -/
def drivenLevel (o : Outputs) : DrivePort → Bool
  | .front => o.frontEn
  | .rear => o.rearEn

/-- The failsafe cause of a drive permit's readback (R106). -/
def readbackCause : DrivePort → Cause
  | .front => .readbackFront
  | .rear => .readbackRear

/-- The mismatch counter after a sample (Table 6.2). -/
def mismatchAfter (n : Nat) (isMatch : Bool) : Nat := if isMatch then 0 else min 3 (n + 1)

/-- The level that a sample shows on the readback of a drive permit (R105). -/
def readbackLevel (v : Readback) : DrivePort → Bool
  | .front => v.frb
  | .rear => v.rrb

/-- The other drive permit. -/
def otherDrive : DrivePort → DrivePort
  | .front => .rear
  | .rear => .front

/-- A sample's comparison for one drive permit: its readback shows the level driven when the sample is taken (R105). -/
def readbackMatches (d : DrivePort) (v : Readback) (s : State) : Bool :=
  readbackLevel v d == drivenLevel s.permit.outputs d

/-- Both mismatch counters after a sample, each by its own comparison with the outputs as they stand (R105, R106). -/
def countMismatches (v : Readback) (s : State) : State :=
  setMismatch .rear (mismatchAfter (s.permit.mismatch.get .rear) (readbackMatches .rear v s))
    (setMismatch .front (mismatchAfter (s.permit.mismatch.get .front) (readbackMatches .front v s)) s)

/-- A sample brings the counter of a drive permit from 2 to 3 (R106). -/
def thirdMismatch (d : DrivePort) (v : Readback) (s : State) : Bool :=
  s.permit.mismatch.get d == 2 && !readbackMatches d v s

/-- The FAILSAFE request of a drive permit's readback, where one is made (R106). -/
def requestIf (asked : Bool) (d : DrivePort) (s : State) : State :=
  if asked then requestFailsafe (readbackCause d) s else s

/-- One readback sample: FRB and RRB are both compared with the outputs as they stand when it is taken, and each
comparison changes its own counter alone; then come the FAILSAFE requests of the counters that have reached 3
(R105, R106). Of two requests on one sample R108 gives the outcome for either order; `first` names the permit whose
request is taken first (assumption 14, DESIGN CHOICE, safe). -/
def sampleReadback (first : DrivePort) (v : Readback) (s : State) : State :=
  requestIf (thirdMismatch (otherDrive first) v s) (otherDrive first)
    (requestIf (thirdMismatch first v s) first (countMismatches v s))

/-- The sample in which the readback of one drive permit shows the level that is not driven on it, and the other
readback shows a given level. -/
def mismatchSample (m : ThirdMismatch) (s : State) : Readback :=
  match m.drive with
  | .front => { frb := !drivenLevel s.permit.outputs .front, rrb := m.other }
  | .rear => { frb := m.other, rrb := !drivenLevel s.permit.outputs .rear }

/-- READBACK_MISMATCH: the mismatching sample that brings the counter of the permit named from 2 to 3 (R106), that
permit's request taken first. -/
def readbackMismatch (m : ThirdMismatch) (s : State) : State :=
  if s.permit.mismatch.get m.drive = 2 then sampleReadback m.drive (mismatchSample m s) s else s

/-! ## SVC and the image -/

/-- One sample of SVC: the SVC level; a deasserted one clears the service arm (R153, R156). -/
def sampleSvc (asserted : Bool) (s : State) : State :=
  { s with
    osc.svc := asserted
    osc.arm := s.osc.arm && asserted }

/-- A corruption of one byte of the image's storage, after STARTING entry, which the frozen digest's presence
shows (R166, R167; assumption 6, DEDUCED, unsafe). -/
def corruptImage (offset : Nat) (value : Byte) (s : State) : State :=
  if s.osc.frozen.isSome then { s with osc.image := s.osc.image.set offset value } else s

/-! ## The meanings -/

/-- LINE_QUALIFY. -/
def execLineQualify (l : FaultLine) (s : State) : Host.Outcome State Fault Refusal :=
  .next (unlessHeld (lineQualify l) s)

/-- LINE_UNQUALIFY. -/
def execLineUnqualify (l : FaultLine) (s : State) : Host.Outcome State Fault Refusal :=
  .next (unlessHeld (lineUnqualify l) s)

/-- LINE_EDGE. -/
def execLineEdge (l : FaultLine) (s : State) : Host.Outcome State Fault Refusal :=
  .next (unlessHeld (lineEdge l) s)

/-- READBACK_MISMATCH. -/
def execReadbackMismatch (m : ThirdMismatch) (s : State) : Host.Outcome State Fault Refusal :=
  .next (unlessHeld (readbackMismatch m) s)

/-- SVC_DEASSERTED. -/
def execSvcDeasserted (s : State) : Host.Outcome State Fault Refusal :=
  .next (unlessHeld (sampleSvc false) s)

/-- LINE_SAMPLE. -/
def execLineSample (l : FaultLine) (high : Bool) (s : State) : Host.Outcome State Fault Refusal :=
  .next (unlessHeld (sampleLine l high) s)

/-- READBACK_SAMPLE. -/
def execReadbackSample (first : DrivePort) (levels : Readback) (s : State) : Host.Outcome State Fault Refusal :=
  .next (unlessHeld (sampleReadback first levels) s)

/-- SVC_ASSERTED. -/
def execSvcAsserted (s : State) : Host.Outcome State Fault Refusal :=
  .next (unlessHeld (sampleSvc true) s)

/-- MILLISECOND_TICK. -/
def execMillisecondTick (s : State) : Host.Outcome State Fault Refusal :=
  .next (unlessHeld tick s)

/-- CONFIGURATION_IMAGE_CORRUPTION. -/
def execConfigurationImageCorruption (offset : Fin 236) (value : Byte) (s : State) :
    Host.Outcome State Fault Refusal :=
  .next (unlessHeld (corruptImage offset.val value) s)

end Sys2Proof.Machine
end

