-- ==== Sys2Proof/Machine/Dispatch.lean ====
section
/-! DEFINITION. exec: each command's effect on everything but the queue, one arm per row of the opcode table. -/

namespace Sys2Proof.Machine

def exec (i : Instr) (s : State) : Host.Outcome State Fault Refusal :=
  match i with
  | .readStatus p page => Sys2Proof.Machine.execReadStatus p page s
  | .readEnvelope p => Sys2Proof.Machine.execReadEnvelope p s
  | .readElement p element => Sys2Proof.Machine.execReadElement p element s
  | .readFault p position => Sys2Proof.Machine.execReadFault p position s
  | .readRetained p element => Sys2Proof.Machine.execReadRetained p element s
  | .readNotice p => Sys2Proof.Machine.execReadNotice p s
  | .readConfig p sect index => Sys2Proof.Machine.execReadConfig p sect index s
  | .checkIn p => Sys2Proof.Machine.execCheckIn p s
  | .report p element cls detail => Sys2Proof.Machine.execReport p element cls detail s
  | .setFloor p profile => Sys2Proof.Machine.execSetFloor p profile s
  | .adopt p generation => Sys2Proof.Machine.execAdopt p generation s
  | .release p element => Sys2Proof.Machine.execRelease p element s
  | .consent p element => Sys2Proof.Machine.execConsent p element s
  | .veto p element => Sys2Proof.Machine.execVeto p element s
  | .start p digest => Sys2Proof.Machine.execStart p digest s
  | .writeConfig p sect index entry => Sys2Proof.Machine.execWriteConfig p sect index entry s
  | .serviceArm p => Sys2Proof.Machine.execServiceArm p s
  | .serviceClear p which => Sys2Proof.Machine.execServiceClear p which s
  | .unknownRequest p code payload => Sys2Proof.Machine.execUnknownRequest p code payload s
  | .frameDiscard p kind => Sys2Proof.Machine.execFrameDiscard p kind s
  | .gapDiscard p => Sys2Proof.Machine.execGapDiscard p s
  | .replyComplete p => Sys2Proof.Machine.execReplyComplete p s
  | .powerOnReset cfgsel1 cfgsel0 => Sys2Proof.Machine.execPowerOnReset cfgsel1 cfgsel0 s
  | .keyCycleReset => Sys2Proof.Machine.execKeyCycleReset s
  | .resetEnd => Sys2Proof.Machine.execResetEnd s
  | .decayExpiry e c => Sys2Proof.Machine.execDecayExpiry e c s
  | .checkInDeadlineExpiry p => Sys2Proof.Machine.execCheckInDeadlineExpiry p s
  | .dwellExpiry => Sys2Proof.Machine.execDwellExpiry s
  | .adoptionDeadlineExpiry d => Sys2Proof.Machine.execAdoptionDeadlineExpiry d s
  | .ballotWindowExpiry => Sys2Proof.Machine.execBallotWindowExpiry s
  | .trialExpiry slot => Sys2Proof.Machine.execTrialExpiry slot s
  | .startWindowExpiry => Sys2Proof.Machine.execStartWindowExpiry s
  | .integrityCheckExpiry => Sys2Proof.Machine.execIntegrityCheckExpiry s
  | .lineQualify l => Sys2Proof.Machine.execLineQualify l s
  | .lineUnqualify l => Sys2Proof.Machine.execLineUnqualify l s
  | .lineEdge l => Sys2Proof.Machine.execLineEdge l s
  | .readbackMismatch m => Sys2Proof.Machine.execReadbackMismatch m s
  | .svcDeasserted => Sys2Proof.Machine.execSvcDeasserted s
  | .lineSample l high => Sys2Proof.Machine.execLineSample l high s
  | .readbackSample first levels => Sys2Proof.Machine.execReadbackSample first levels s
  | .svcAsserted => Sys2Proof.Machine.execSvcAsserted s
  | .millisecondTick => Sys2Proof.Machine.execMillisecondTick s
  | .configurationImageCorruption offset value => Sys2Proof.Machine.execConfigurationImageCorruption offset value s
  | .frameStart p byte => Sys2Proof.Machine.execFrameStart p byte s

end Sys2Proof.Machine
end

