-- ==== Sys2Proof/Safety.lean ====
section
/-! DEFINITION. What the spec promises of every state of the part, in the terms that the statements use: one
predicate per promise, each with the rule that makes it. -/

namespace Sys2Proof.Machine

/-- Every output stands at the level of Table 6.1 for the part state, the envelope and the latches (R102). -/
def OutputsAgree (s : State) : Prop :=
  s.permit.outputs =
    outputsOf s.osc.part s.unit.envelope s.unit.adoption.front.latch s.unit.adoption.rear.latch

/-- In CONFIG, STARTING and FAILSAFE the envelope equals P7 with severity 7 (R82). -/
def StoppedOutsideRun (s : State) : Prop := s.osc.part ≠ .run → s.unit.envelope = safeStop

/-- One envelope value is no less tight than another in every field (R82). -/
def NoLooser (a b : Envelope) : Prop :=
  a.limits.frontCap ≤ b.limits.frontCap ∧ a.limits.rearCap ≤ b.limits.rearCap ∧
  a.limits.speedCap ≤ b.limits.speedCap ∧ (a.limits.regen = true → b.limits.regen = true) ∧
  (a.limits.frontDrive = true → b.limits.frontDrive = true) ∧
  (a.limits.rearDrive = true → b.limits.rearDrive = true) ∧ b.severity ≤ a.severity

/-- The envelope is no less tight than the target, and equals P7 with severity 7 outside RUN (R82); both severities are
at most 7 (R73, R82). -/
def EnvelopeHolds (s : State) : Prop :=
  NoLooser s.unit.envelope s.unit.target.env ∧ StoppedOutsideRun s ∧ s.unit.target.env.severity ≤ 7 ∧
  s.unit.envelope.severity ≤ 7

/-- The table holds at most 32 records, and never two of one element and class (R20). -/
def TableWellFormed (s : State) : Prop :=
  s.table.records.length ≤ 32 ∧
  s.table.records.Pairwise fun x y => ¬(x.element = y.element ∧ x.cls = y.cls)

/-- The fields of a record as R21 and R22 lay them down: confirmed_at is present once it is CONFIRMED, decay remaining
while it is SUSPECT, line once LINES is among its origins; the score is at most 255, and it has 1 to 65535 reports. -/
def RecordFieldsAgree (x : FaultRecord) : Prop :=
  (x.confirmedAt.isSome = true ↔ x.state = .confirmed) ∧ (x.decay.isSome = true ↔ x.state = .suspect) ∧
  (x.line.isSome = true ↔ x.origins.lines = true) ∧ x.score ≤ 255 ∧ 1 ≤ x.reports ∧ x.reports ≤ 65535

/-- Every record's fields agree with its state (R22). -/
def RecordsAgree (s : State) : Prop := ∀ x ∈ s.table.records, RecordFieldsAgree x

/-- A record of an element is CONFIRMED, of a class with an action (R17). -/
def HasConfirmed (s : State) (e : Element) (a : FaultAction) : Prop :=
  ∃ x ∈ s.table.records, x.element = e ∧ x.state = .confirmed ∧ (classParams s.osc.image x.cls).action = a

/-- The health of every element matches the fault table (R17, its three lines). -/
def HealthMatchesTable (s : State) : Prop :=
  ∀ e,
    (s.map.health.get e = .isolated → HasConfirmed s e .isolate) ∧
    (s.map.health.get e = .degraded → HasConfirmed s e .derate ∧ ¬HasConfirmed s e .isolate) ∧
    (s.map.health.get e = .inService ∨ s.map.health.get e = .trial →
      ∀ x ∈ s.table.records, x.element = e → x.state = .suspect)

/-- In CONFIG the fault table is empty and every element is IN_SERVICE (R19, R41, R42). -/
def ConfigIsClean (s : State) : Prop :=
  s.osc.part = .config → s.table.records = [] ∧ ∀ e, s.map.health.get e = .inService

/-- A trial slot holds an element's trial. -/
def InFlight (r : RecoveryUnit) (e : Element) : Prop :=
  (∃ t, r.primary = some t ∧ t.element = e) ∨ (∃ t, r.nested = some t ∧ t.element = e)

/-- NESTED is occupied only by a RUNNING trial behind a SUSPENDED PRIMARY of another group (R132, R139). -/
def SlotsAgree (r : RecoveryUnit) : Prop :=
  ∀ n, r.nested = some n → n.state = .running ∧
    ∃ t, r.primary = some t ∧ t.state = .suspended ∧ elementGroup t.element ≠ elementGroup n.element

/-- The trial slots hold what R132 allows, an element is in TRIAL exactly while a slot holds its record, and an open
ballot names an ISOLATED or DEGRADED element (R123, R132). -/
def TrialsAgree (s : State) : Prop :=
  SlotsAgree s.recovery ∧ (∀ e, s.map.health.get e = .trial ↔ InFlight s.recovery e) ∧
  ∀ b, s.recovery.ballot = some b →
    s.map.health.get b.element = .isolated ∨ s.map.health.get b.element = .degraded

/-- No open ballot's consent set holds a port that is out of service, and the answered set is a proper part of the
consent set (R114, R123, R126). -/
def BallotAsksInService (s : State) : Prop :=
  ∀ b, s.recovery.ballot = some b →
    (∀ p, b.consent.get p = true → portInService s p = true) ∧
    (∀ p, b.answered.get p = true → b.consent.get p = true) ∧ b.answered ≠ b.consent

/-- A permit latch is set only in RUN, for a port in service whose axle the envelope allows (R100). -/
def LatchesHold (s : State) : Prop :=
  ∀ d, (s.unit.adoption.get d).latch = true →
    portRequired s d = true ∧ axleAllowed s.unit.envelope d = true

/-- No port that is out of service has a floor request in force (R70). -/
def FloorsInService (s : State) : Prop := ∀ p, s.unit.floors.get p ≠ none → portInService s p = true

/-- No port that is out of service is supervised (R57, R58). -/
def SupervisedInService (s : State) : Prop := ∀ p, s.contact.get p ≠ none → portInService s p = true

/-- In RUN, every element whose retained entry is locked is LOCKED_OUT (R152). -/
def RetainedLockedOut (s : State) : Prop :=
  s.osc.part = .run → ∀ e, (s.retained.entries.get e).locked = true → s.map.health.get e = .lockedOut

/-- The service arm is set only in CONFIG, with SVC asserted at its latest sample (R153, R156). -/
def ArmOnlyInConfig (s : State) : Prop := s.osc.arm = true → s.osc.part = .config ∧ s.osc.svc = true

/-- A port that is pending in RUN is required and has its deadline running (R92). -/
def PendingHasDeadline (s : State) : Prop :=
  s.osc.part = .run → ∀ d, (s.unit.adoption.get d).pending = true →
    portRequired s d = true ∧ (s.unit.adoption.get d).deadline.isSome = true

/-- In RUN the dwell runs exactly while the envelope differs from the target; in CONFIG and STARTING it does not run
(R88, R89). -/
def DwellAgrees (s : State) : Prop :=
  (s.osc.part = .run → (s.unit.dwell.isSome = true ↔ s.unit.envelope ≠ s.unit.target.env)) ∧
  (s.osc.part = .config ∨ s.osc.part = .starting → s.unit.dwell = none)

/-- The cause record is empty but in FAILSAFE (R109), and the frozen digest is present in STARTING and RUN and absent
in CONFIG (R166). -/
def ControllerAgrees (s : State) : Prop :=
  (s.osc.cause.cause ≠ .none ↔ s.osc.part = .failsafe) ∧
  (s.osc.cause.enteredAt.isSome = true ↔ s.osc.part = .failsafe) ∧
  (s.osc.part = .config → s.osc.frozen = none) ∧
  (s.osc.part = .starting ∨ s.osc.part = .run → s.osc.frozen.isSome = true)

/-- The image has its 236 bytes (R183). -/
def ImageLength (s : State) : Prop := s.osc.image.length = imageLength

/-- The mismatch counters lie between 0 and 3 (R106). -/
def CountersBounded (s : State) : Prop := ∀ d, s.permit.mismatch.get d ≤ 3

/-- While the part is held in reset it is in CONFIG with every output low (R104). -/
def HeldIsQuiet (s : State) : Prop :=
  s.time.held = true → s.osc.part = .config ∧ s.permit.outputs = outputsOf .config safeStop false false

/-- Every port sends a reply exactly while it is REPLYING (R173). -/
def RepliesAgree (s : State) : Prop := ∀ p, (s.ports.get p).receiver = .replying ↔ (s.ports.get p).reply.isSome = true

/-- In CONFIG and STARTING there is no ballot and no trial, and no element is in TRIAL (R114, R145). -/
def NoRecoveryBeforeRun (s : State) : Prop :=
  s.osc.part = .config ∨ s.osc.part = .starting →
    s.recovery.ballot = none ∧ s.recovery.primary = none ∧ s.recovery.nested = none ∧
    ∀ e, s.map.health.get e ≠ .trial

/-- In CONFIG and STARTING no drive port is pending, and no adoption deadline runs (R85, R92). -/
def NothingPendingBeforeRun (s : State) : Prop :=
  s.osc.part = .config ∨ s.osc.part = .starting →
    ∀ d, (s.unit.adoption.get d).pending = false ∧ (s.unit.adoption.get d).deadline = none

/-- Once overflow is set, the target and the envelope are SAFE_STOP with severity 7, and no dwell runs (R77, R91). -/
def OverflowStops (s : State) : Prop :=
  s.table.overflow = true → s.unit.target.env = safeStop ∧ s.unit.envelope = safeStop ∧ s.unit.dwell = none

/-! ## Words of the statements about commands -/

/-- A request that arrives on the port is taken: the part is not held in reset, and the port is not sending a reply
(R104, R173). -/
def Listens (p : Port) (s : State) : Prop := s.time.held = false ∧ (s.ports.get p).receiver ≠ .replying

/-- A request's frame stands in the port's buffer (R173). -/
def framed (p : Port) (code : Byte) (payload : List Byte) (s : State) : State :=
  { s with ports := s.ports.set p { s.ports.get p with buffer := requestFrame code payload } }

/-- The state in which a request other than SERVICE_ARM and SERVICE_CLEAR is handed to its owning block: its frame
stands in the port's buffer, and the service arm is clear if the port is the configuration port (R156, R175). -/
def received (p : Port) (code : Byte) (payload : List Byte) (s : State) : State :=
  { framed p code payload s with osc.arm := s.osc.arm && decide (p ≠ s.osc.configPort) }

/-- From the state that a request's taking has left, the port has entered REPLYING and sends a reply of a status and a
payload, whose header shows that state (R175, R177); nothing else has changed. -/
def Answered (p : Port) (code : Byte) (st : Status) (payload : List Byte) (left t : State) : Prop :=
  t = { left with
    ports := left.ports.set p
      { left.ports.get p with
        receiver := .replying
        reply := some
          { code := code, status := st, notices := noticeByte (left.ports.get p).notices,
            generation := left.unit.generation, part := left.osc.part, payload := payload }
        overlapped := false } }

/-- A fault report on an element and class with one of the device's own monitors as its origin: no detail, no line
(Table 3.1). -/
def byMonitor (e : Element) (c : FaultClass) : FaultReport :=
  { element := e, cls := c, origin := .monitor, detail := none, line := none, startVote := false }

/-- The two-byte value at a place of a payload, low byte first (R180). -/
def word16At (b : List Byte) (n : Nat) : Half := byteAt b (n + 1) ++ byteAt b n

/-- The four-byte value at a place of a payload, lowest byte first (R180). -/
def word32At (b : List Byte) (n : Nat) : Uptime :=
  byteAt b (n + 3) ++ byteAt b (n + 2) ++ byteAt b (n + 1) ++ byteAt b n

/-- Four bytes of a payload show an envelope value: three caps and the allowance byte (R182). -/
def ShowsLimits (b : List Byte) (n : Nat) (v : Envelope) : Prop :=
  byteAt b n = BitVec.ofNat 8 v.limits.frontCap ∧ byteAt b (n + 1) = BitVec.ofNat 8 v.limits.rearCap ∧
  byteAt b (n + 2) = BitVec.ofNat 8 v.limits.speedCap ∧ (byteAt b (n + 3)).getLsbD 0 = v.limits.regen ∧
  (byteAt b (n + 3)).getLsbD 1 = v.limits.frontDrive ∧ (byteAt b (n + 3)).getLsbD 2 = v.limits.rearDrive ∧
  (byteAt b (n + 3)).getLsbD 3 = false ∧ (byteAt b (n + 3)).extractLsb' 4 3 = BitVec.ofNat 3 v.severity ∧
  (byteAt b (n + 3)).getLsbD 7 = false

/-- The two bits that show a timer which FAILSAFE freezes: 0 not running, 1 running, 2 frozen (Table 11.8). -/
def timerBits (part : PartState) (t : Timer) : BitVec 2 :=
  match t, part with
  | none, _ => 0
  | some _, .failsafe => 2
  | some _, _ => 1

/-- Four bytes of a payload show a drive port's adoption record (Table 11.8). -/
def ShowsAdoption (b : List Byte) (n : Nat) (required : Bool) (part : PartState) (v : AdoptionRecord) : Prop :=
  (byteAt b n).getLsbD 0 = required ∧ (byteAt b n).getLsbD 1 = v.pending ∧
  (byteAt b n).extractLsb' 2 2 = timerBits part v.deadline ∧ (byteAt b n).getLsbD 4 = v.latch ∧
  (byteAt b n).getLsbD 5 = v.lastAdopted.isSome ∧ (byteAt b n).extractLsb' 6 2 = 0#2 ∧
  word16At b (n + 1) = v.lastAdopted.getD 0#16 ∧ byteAt b (n + 3) = BitVec.ofNat 8 (v.deadline.getD 0)

/-- Ten bytes of a payload show a trial slot; `holds` is the suspension condition's bit (Table 11.7, page 2). -/
def ShowsTrial (b : List Byte) (n : Nat) (holds : Bool) (slot : Option Trial) : Prop :=
  match slot with
  | none => ∀ k, k < 10 → byteAt b (n + k) = 0#8
  | some t =>
      (byteAt b n).getLsbD 0 = true ∧ (byteAt b n).getLsbD 1 = (t.state == .suspended) ∧
      (byteAt b n).getLsbD 2 = holds ∧ (byteAt b n).extractLsb' 3 5 = 0#5 ∧
      byteAt b (n + 1) = BitVec.ofNat 8 (elementCode t.element) ∧ word32At b (n + 2) = t.startedAt ∧
      word16At b (n + 6) = BitVec.ofNat 16 t.duration ∧ word16At b (n + 8) = BitVec.ofNat 16 t.remaining

/-- A port set in four bits of a byte, from a bit on (R180). -/
def ShowsPorts (b : Byte) (n : Nat) (v : PortSet) : Prop :=
  b.getLsbD n = v.front ∧ b.getLsbD (n + 1) = v.rear ∧ b.getLsbD (n + 2) = v.pack ∧ b.getLsbD (n + 3) = v.ride

/-- The suspension condition of a group holds for the envelope's allowances (Table 8.4). -/
def Suspends (g : Group) (v : Envelope) : Prop :=
  match g with
  | .front => v.limits.frontDrive = false
  | .rear => v.limits.rearDrive = false
  | .supply | .rider => v.limits.frontDrive = false ∧ v.limits.rearDrive = false

/-- The PRIMARY trial after an evaluation against an envelope value, with NESTED as it stands (R138, Table 8.5). -/
def evaluatedTrial (nested : Option Trial) (v : Envelope) (x : Trial) : Trial :=
  { x with
    state := if suspensionHolds (elementGroup x.element) v then .suspended
      else if nested = none then .running else x.state }

/-- The TRIAL notice that evaluations leave: SUSPENDED or RESUMED where they have changed the state of the PRIMARY trial,
otherwise the notice that stood before them (Table 8.5, R144). -/
def evaluationNotice (before after : Option Trial) (stood : Option (Element × TrialOutcome)) :
    Option (Element × TrialOutcome) :=
  match before, after with
  | some x, some y =>
      if x.state = y.state then stood
      else some (x.element, if y.state = .suspended then .suspended else .resumed)
  | _, _ => stood

/-- What a claim has left in the link ports: the CONFIRMED notice with a detail on every port; ENVELOPE with the
generation where the envelope has changed; BALLOT withdrawn where a ballot has closed; the TRIAL notice posted before the
evaluations of PRIMARY, if one was, and then the evaluations' own, which go from the record `before`; nothing else. -/
def Noticed (s t : State) (confirmed : Element × Option FaultClass) (closes : Bool) (before : Option Trial)
    (posted : Option (Element × TrialOutcome)) : Prop :=
  ∀ p, t.ports.get p =
    { s.ports.get p with
      notices :=
        { (s.ports.get p).notices with
          envelope := if t.unit.envelope = s.unit.envelope then (s.ports.get p).notices.envelope
            else some t.unit.generation
          ballot := if closes then none else (s.ports.get p).notices.ballot
          confirmed := some confirmed
          trial := evaluationNotice before t.recovery.primary (posted.or (s.ports.get p).notices.trial) } }

/-- A change of an element's health takes out a port that the ballot asks, which voids the ballot (R126). -/
def takesOutVoter (e : Element) (before after : Health) (b : Ballot) : Bool :=
  !isOut before && isOut after && (portOf e).any b.consent.get

/-- The notice of a ballot that a change of an element's health voids, if there is one (R126, R127). -/
def portOutNotice (e : Element) (before after : Health) (ballot : Option Ballot) : Option (Element × TrialOutcome) :=
  match ballot with
  | none => none
  | some b => if takesOutVoter e before after b then some (b.element, .voided .portOut) else none

/-- The score after a report into a SUSPECT record of a score: the weight added, saturating at 255; a start-vote report
raises it to the confirm threshold (R26, R34). -/
def raisedScore (k : ClassParams) (r : FaultReport) (score : Nat) : Nat :=
  if r.startVote then max score k.confirm
  else min 255 (score + if r.origin = .lines then k.confirm else k.weight)

/-- A SUSPECT record after a report that confirms it (R26, R32, R34). -/
def confirmedBy (k : ClassParams) (r : FaultReport) (now : Uptime) (x : FaultRecord) : FaultRecord :=
  { x with
    state := .confirmed
    score := raisedScore k r x.score
    origins := x.origins.insert r.origin
    reports := min 65535 (x.reports + 1)
    lastAt := now
    confirmedAt := some now
    detail := if r.detail = none then x.detail else r.detail
    line := if r.origin = .lines ∧ x.line = none then r.line else x.line
    decay := none }

/-- The record of a report that confirms it at its creation (R27, R32, R34). -/
def confirmedAtCreation (k : ClassParams) (r : FaultReport) (now : Uptime) : FaultRecord :=
  { element := r.element
    cls := r.cls
    state := .confirmed
    score := raisedScore k r 0
    origins := noOrigins.insert r.origin
    reports := 1
    firstAt := now
    lastAt := now
    confirmedAt := some now
    detail := r.detail
    line := if r.origin = .lines then r.line else none
    decay := none }

/-- The records after a report that confirms its record: the record of its pair, or a new one at the end of the list,
after an eviction where the list was full (R26 to R28). -/
def recordsConfirmedBy (r : FaultReport) (s : State) : List FaultRecord :=
  let k := classParams s.osc.image r.cls
  match s.table.records.find? fun x => x.element == r.element && x.cls == r.cls with
  | some x => s.table.records.map fun y => if y = x then confirmedBy k r s.time.uptime y else y
  | none =>
      (if s.table.records.length < 32 then s.table.records else evictLowest s.table.records) ++
        [confirmedAtCreation k r s.time.uptime]

/-- The retained entries after the confirmation of a record of an element and class: a retained class locks an entry that
is unlocked, and changes nothing else (R151). -/
def entriesLockedBy (e : Element) (c : FaultClass) (s : State) : PerElement RetainedEntry :=
  if (classParams s.osc.image c).retained && !(s.retained.entries.get e).locked then
    s.retained.entries.set e
      { locked := true, cls := some c, keyCycle := some s.retained.keyCycles,
        lockCount := min 255 ((s.retained.entries.get e).lockCount + 1) }
  else s.retained.entries

/-- A ballot closed without passing: the slot empty, every BALLOT notice withdrawn, the outcome posted to all four
ports as a TRIAL notice (R127). -/
def closed (e : Element) (o : TrialOutcome) (s : State) : State :=
  { s with
    recovery := { s.recovery with ballot := none }
    ports := s.ports.map fun v => { v with notices := { v.notices with ballot := none, trial := some (e, o) } } }

/-- A ballot that passes has closed, before its trial starts: the slot empty, every BALLOT notice withdrawn (R123,
R127). -/
def passed (s : State) : State :=
  { s with
    recovery := { s.recovery with ballot := none }
    ports := s.ports.map fun v => { v with notices := { v.notices with ballot := none } } }

/-- The record of an element and class that the table holds (R20). -/
def recordOf (s : State) (e : Element) (c : FaultClass) : Option FaultRecord :=
  s.table.records.find? fun x => x.element == e && x.cls == c

/-- The part is in STARTING or RUN. -/
def Running (s : State) : Prop := s.osc.part = .starting ∨ s.osc.part = .run

/-- Every SUSPECT record's score lies above its class's clear threshold and below its confirm threshold (R36). -/
def SuspectScoresBetween (s : State) : Prop :=
  ∀ x ∈ s.table.records, x.state = .suspect →
    (classParams s.osc.image x.cls).clear < x.score ∧ x.score < (classParams s.osc.image x.cls).confirm

/-- Every class's parameters pass the cross-field checks: clear below confirm, weight above clear; and clear is at most
254 (R23, Table 10.6). -/
def ClassesAgree (s : State) : Prop :=
  ∀ c, (classParams s.osc.image c).clear < (classParams s.osc.image c).confirm ∧
    (classParams s.osc.image c).clear < (classParams s.osc.image c).weight ∧
    (classParams s.osc.image c).clear ≤ 254

/-- The port that a command is sent over, of the commands that are requests. -/
def requestPort : Instr → Option Port
  | .readStatus p _ | .readEnvelope p | .readElement p _ | .readFault p _ | .readRetained p _ | .readNotice p
  | .readConfig p _ _ | .checkIn p | .report p _ _ _ | .setFloor p _ | .adopt p _ | .release p _ | .consent p _
  | .veto p _ | .start p _ | .writeConfig p _ _ _ | .serviceArm p | .serviceClear p _ | .unknownRequest p _ _ =>
      some p
  | .frameDiscard _ _ | .gapDiscard _ | .replyComplete _ | .powerOnReset _ _ | .keyCycleReset | .resetEnd
  | .decayExpiry _ _ | .checkInDeadlineExpiry _ | .dwellExpiry | .adoptionDeadlineExpiry _ | .ballotWindowExpiry
  | .trialExpiry _ | .startWindowExpiry | .integrityCheckExpiry | .lineQualify _ | .lineUnqualify _ | .lineEdge _
  | .readbackMismatch _ | .svcDeasserted | .lineSample _ _ | .readbackSample _ _ | .svcAsserted | .millisecondTick
  | .configurationImageCorruption _ _ | .frameStart _ _ => none

/-- The command is a request that is refused: it is answered with a status other than OK and no payload, and but for its
frame in the buffer and the service arm of the configuration port nothing has changed (R156, R177). -/
def Refused (i : Instr) (st : Status) (s : State) : Prop :=
  ∃ p code payload t, requestPort i = some p ∧ requestOf i = some (code, payload) ∧ exec i s = .next t ∧
    Answered p code st [] (received p code payload s) t

/-- The command is a reset of the part. -/
def isReset : Instr → Bool
  | .powerOnReset _ _ | .keyCycleReset => true
  | _ => false

/-- The command is a corruption of the image's storage. -/
def isCorruption : Instr → Bool
  | .configurationImageCorruption _ _ => true
  | _ => false

end Sys2Proof.Machine
end

