-- ==== Sys2Proof/Certificates/Slice0/Obligations.lean ====
section
/-! DEFINITION. The statements for the provers, one proposition each. A statement about a command says which next state
`exec` answers, from hypotheses on the state and the operands alone; what the record it gives does not name is
unchanged. `received` and `framed` are the state that a request's arrival leaves, `Answered` the reply. -/

section
open Sys2Proof Sys2Proof.Machine

/-! ## The machine -/

/-- A step takes the command at the front of the queue and is exec of it on the state with the queue's rest. On an
empty queue the block idles, which is the model's choice (assumption 1). -/
def Obligations.StepTakesTheFrontCommand : Prop :=
  (∀ (c : Instr) (rest : List Instr) (s : State),
    step { s with pending := c :: rest } = exec c { s with pending := rest }) ∧
  (∀ s : State, step { s with pending := [] } = .next { s with pending := [] })

/-- Every command answers a next state in every state, and leaves the queue alone. Both are the model's: that a command
answers in every state is assumption 13, with what assumptions 8 and 12 choose where the rules bring nothing about; that
the queue stays, across a reset too, is assumptions 1 and 9. -/
def Obligations.EveryCommandAnswersANextState : Prop :=
  ∀ (c : Instr) (s : State), ∃ t, exec c s = .next t ∧ t.pending = s.pending

/-- The values that the spec states for a reset: every block's, those of the factory image's budgets and target among
them. The configuration port is the strap's, which no rule fixes (assumption 2). -/
def Obligations.ResetGivesTheResetValues : Prop :=
  let s := State.reset
  s.osc.part = .config ∧ s.time.uptime = 0 ∧ s.time.held = false ∧ s.table.records = [] ∧ s.table.overflow = false ∧
  (∀ e, s.map.health.get e = .inService ∧ s.map.budget.get e = (if e = .brake then 1 else 2)) ∧
  (∀ l, s.lines.get l = { qualified := false, run := 0, reference := none }) ∧
  (∀ p, s.contact.get p = none ∧ s.unit.floors.get p = none) ∧
  s.unit.target.env =
    { limits := { frontCap := 250, rearCap := 250, speedCap := 45, regen := true, frontDrive := true, rearDrive := true }
      severity := 0 } ∧
  s.unit.target.matched = [] ∧ s.unit.target.overflowDemand = false ∧
  s.unit.target.cuts = { front := false, rear := false, supply := false } ∧
  s.unit.envelope =
    { limits := { frontCap := 0, rearCap := 0, speedCap := 0, regen := false, frontDrive := false, rearDrive := false }
      severity := 7 } ∧
  s.unit.generation = 0 ∧ s.unit.dwell = none ∧
  (∀ d, s.unit.adoption.get d = { lastAdopted := none, pending := false, deadline := none, latch := false }) ∧
  s.permit.outputs = { frontEn := false, rearEn := false, regenEn := false, packTrip := false } ∧
  (∀ d, s.permit.mismatch.get d = 0) ∧
  s.recovery = { ballot := none, primary := none, nested := none } ∧
  (∀ e, s.retained.entries.get e = { locked := false, cls := none, keyCycle := none, lockCount := 0 }) ∧
  s.retained.keyCycles = 0 ∧ s.osc.image.length = 236 ∧ s.osc.frozen = none ∧
  (∀ p, s.osc.started.get p = false) ∧ s.osc.startWindow = none ∧ s.osc.integrity = none ∧ s.osc.arm = false ∧
  s.osc.svc = false ∧ s.osc.cause = { cause := .none, enteredAt := none, enteredFrom := none } ∧
  (∀ p, (s.ports.get p).receiver = .idle ∧ (s.ports.get p).buffer = [] ∧ (s.ports.get p).lastError = none ∧
    (s.ports.get p).notices = { envelope := none, ballot := none, confirmed := none, trial := none, linkErr := none })

/-- The state after reset meets every invariant that the statements below are about. -/
def Obligations.ResetMeetsTheInvariants : Prop :=
  let s := State.reset
  EnvelopeHolds s ∧ OutputsAgree s ∧ LatchesHold s ∧ FloorsInService s ∧ SupervisedInService s ∧
  BallotAsksInService s ∧ TableWellFormed s ∧ RecordsAgree s ∧ ConfigIsClean s ∧ HealthMatchesTable s ∧
  ClassesAgree s ∧ SuspectScoresBetween s ∧ NoRecoveryBeforeRun s ∧ TrialsAgree s ∧ RetainedLockedOut s ∧
  ArmOnlyInConfig s ∧ ControllerAgrees s ∧ ImageLength s ∧ HeldIsQuiet s ∧ CountersBounded s ∧ RepliesAgree s ∧
  PendingHasDeadline s ∧ NothingPendingBeforeRun s ∧ DwellAgrees s ∧ OverflowStops s

/-! ## Frames and entries -/

/-- Every well-formed request's frame decodes to that request, on the port that it is sent over. -/
def Obligations.RequestFramesDecodeBack : Prop :=
  ∀ (i : Instr) (p : Port), i.wellFormed = true → requestPort i = some p →
    ∃ bytes, encodeFrame i = some bytes ∧ decodeFrame p bytes = some i

/-- Frames written out by hand from Table 11.5 and R174 decode to the requests they stand for. -/
def Obligations.WrittenFramesDecode : Prop :=
  decodeFrame .front [0x20#8, 0x00#8, 0xE9#8, 0x1B#8] = some (.checkIn .front) ∧
  decodeFrame .pack [0x10#8, 0x01#8, 0x00#8, 0xCE#8, 0xBC#8] = some (.readStatus .pack 0#8) ∧
  decodeFrame .rear [0x21#8, 0x04#8, 0x00#8, 0x00#8, 0xD2#8, 0x00#8, 0xFB#8, 0x84#8] =
    some (.report .rear 0#8 0#8 (some 0x00D2#16)) ∧
  decodeFrame .front [0x23#8, 0x02#8, 0x07#8, 0x00#8, 0xA5#8, 0xDF#8] = some (.adopt .front 7#16) ∧
  decodeFrame .ride [0x30#8, 0x01#8, 0x08#8, 0x00#8, 0xBB#8] = some (.release .ride 8#8) ∧
  decodeFrame .ride [0x41#8, 0x03#8, 0x06#8, 0x00#8, 0x32#8, 0x58#8, 0x95#8] =
    some (.writeConfig .ride 6#8 0#8 [0x32#8])

/-- A frame whose length byte is above 24 is a LENGTH discard, whatever follows; a complete frame whose CRC differs from
the one received is a CRC discard; and a well-formed request's frame with one byte changed, but for its length byte,
is one. -/
def Obligations.DamagedFramesAreDiscarded : Prop :=
  (∀ (p : Port) (code len : Byte) (rest : List Byte), 24 < len.toNat →
    decodeFrame p (code :: len :: rest) = some (.frameDiscard p .length)) ∧
  (∀ (p : Port) (code len lo hi : Byte) (payload : List Byte), payload.length = len.toNat → len.toNat ≤ 24 →
    hi ++ lo ≠ crc16 (code :: len :: payload) →
    decodeFrame p (code :: len :: payload ++ [lo, hi]) = some (.frameDiscard p .crc)) ∧
  (∀ (i : Instr) (p : Port) (bytes : List Byte) (n : Nat) (b : Byte), i.wellFormed = true → requestPort i = some p →
    encodeFrame i = some bytes → n < bytes.length → n ≠ 1 → byteAt bytes n ≠ b →
    decodeFrame p (bytes.set n b) = some (.frameDiscard p .crc))

/-- Every entry that WRITE_CONFIG's check 5 admits is spelled again, byte for byte, by the fields read from it: no bit of
an entry is dropped, in any of the eight sections. And a written entry reads back as written, every other entry as
before, and the image keeps its 236 bytes. -/
def Obligations.EntriesAreWrittenAndReadWhole : Prop :=
  (∀ b : List Byte,
     (fieldsInRange .cls b = true → classEntry (classOf b) = b) ∧
     (fieldsInRange .element b = true → elementEntry (elementConfigOf b) = b) ∧
     (fieldsInRange .group b = true → groupEntry (durationOf b) = b) ∧
     (fieldsInRange .profile b = true → profileEntry (limitsOf b) = b) ∧
     (fieldsInRange .modeRule b = true → modeRuleEntry (modeRuleOf b) = b) ∧
     (fieldsInRange .line b = true → lineEntry (lineConfigOf b) = b) ∧
     (fieldsInRange .port b = true → portEntry (deadlineOf b) = b) ∧
     (fieldsInRange .glob b = true → globalEntry (globalOf b) = b)) ∧
  (∀ (image entry : List Byte) (k : Sect) (n : Nat), image.length = 236 → n < sectCount k → entry.length = sectLength k →
     entryAt (putEntry image k n entry) k n = entry ∧ (putEntry image k n entry).length = 236 ∧
     ∀ (l : Sect) (m : Nat), m < sectCount l → ¬(l = k ∧ m = n) →
       entryAt (putEntry image k n entry) l m = entryAt image l m)

/-! ## The reads -/

/-- READ_STATUS, pages 0 to 2 by the bytes of Table 11.7, and RANGE for any other page. That a trial's time above 65,535
ms, which only a corrupted image can give, shows its low 16 bits is the model's choice (assumption 6). -/
def Obligations.ReadStatusShowsThePart : Prop :=
  ∀ (p : Port) (page : Byte) (s : State), Listens p s →
    let r := received p 0x10#8 [page] s
    (page = 0#8 → ∃ b t, exec (.readStatus p page) s = .next t ∧ Answered p 0x10#8 .ok b r t ∧ b.length = 15 ∧
      word32At b 0 = r.time.uptime ∧ byteAt b 4 = BitVec.ofNat 8 r.table.records.length ∧
      (byteAt b 5).getLsbD 0 = r.table.overflow ∧ (byteAt b 5).getLsbD 1 = r.osc.svc ∧
      (byteAt b 5).getLsbD 2 = r.osc.arm ∧ (byteAt b 5).getLsbD 3 = r.recovery.ballot.isSome ∧
      (byteAt b 5).extractLsb' 4 2 = BitVec.ofNat 2 (portCode r.osc.configPort) ∧ (byteAt b 5).extractLsb' 6 2 = 0#2 ∧
      (byteAt b 6).extractLsb' 0 4 = BitVec.ofNat 4 (causeCode r.osc.cause.cause) ∧
      (byteAt b 6).extractLsb' 4 4 = (match r.osc.cause.enteredFrom with
        | none => 0xF#4
        | some part => BitVec.ofNat 4 (partCode part)) ∧
      word32At b 7 = r.osc.cause.enteredAt.getD 0#32 ∧ word16At b 11 = BitVec.ofNat 16 r.retained.keyCycles ∧
      byteAt b 13 = BitVec.ofNat 8 (linkErrorCode (r.ports.get p).lastError) ∧
      (byteAt b 14).getLsbD 0 = r.permit.outputs.frontEn ∧ (byteAt b 14).getLsbD 1 = r.permit.outputs.rearEn ∧
      (byteAt b 14).getLsbD 2 = r.permit.outputs.regenEn ∧ (byteAt b 14).getLsbD 3 = r.permit.outputs.packTrip ∧
      (byteAt b 14).extractLsb' 4 4 = 0#4) ∧
    (page = 1#8 → ∃ b t, exec (.readStatus p page) s = .next t ∧ Answered p 0x10#8 .ok b r t ∧ b.length = 10 ∧
      (r.recovery.ballot = none → ∀ n, n < 10 → byteAt b n = 0#8) ∧
      (∀ v, r.recovery.ballot = some v → byteAt b 0 = 1#8 ∧ byteAt b 1 = BitVec.ofNat 8 (elementCode v.element) ∧
        byteAt b 2 = BitVec.ofNat 8 (portCode v.requester) ∧ ShowsPorts (byteAt b 3) 0 v.consent ∧
        ShowsPorts (byteAt b 3) 4 v.answered ∧ word32At b 4 = v.openedAt ∧
        word16At b 8 = BitVec.ofNat 16 v.window)) ∧
    (page = 2#8 → ∃ b t holds, exec (.readStatus p page) s = .next t ∧ Answered p 0x10#8 .ok b r t ∧ b.length = 20 ∧
      ShowsTrial b 0 holds r.recovery.primary ∧ ShowsTrial b 10 false r.recovery.nested ∧
      ∀ v, r.recovery.primary = some v → (holds = true ↔ Suspends (elementGroup v.element) r.unit.envelope)) ∧
    (2 < page.toNat → ∃ t, exec (.readStatus p page) s = .next t ∧ Answered p 0x10#8 .range [] r t)

/-- READ_ENVELOPE, by the bytes of Table 11.8; the generation is the one in the reply's header. That a dwell remaining
above 65,535 ms, which only a corrupted image can give, shows its low 16 bits is the model's choice (assumption 6). -/
def Obligations.ReadEnvelopeShowsTheUnit : Prop :=
  ∀ (p : Port) (s : State), Listens p s →
    let r := received p 0x11#8 [] s
    let u := r.unit
    ∃ b t, exec (.readEnvelope p) s = .next t ∧ Answered p 0x11#8 .ok b r t ∧ b.length = 24 ∧
      (t.ports.get p).reply.map (·.generation) = some u.generation ∧
      ShowsLimits b 0 u.envelope ∧ ShowsLimits b 4 u.target.env ∧
      (∀ n, n < 16 → (word16At b 8).getLsbD n = decide (n ∈ u.target.matched)) ∧
      (byteAt b 10).extractLsb' 0 4 = BitVec.ofNat 4 (floorCode u.target.floors.front) ∧
      (byteAt b 10).extractLsb' 4 4 = BitVec.ofNat 4 (floorCode u.target.floors.rear) ∧
      (byteAt b 11).extractLsb' 0 4 = BitVec.ofNat 4 (floorCode u.target.floors.pack) ∧
      (byteAt b 11).extractLsb' 4 4 = BitVec.ofNat 4 (floorCode u.target.floors.ride) ∧
      (byteAt b 12).getLsbD 0 = u.target.overflowDemand ∧ (byteAt b 12).getLsbD 1 = u.target.cuts.front ∧
      (byteAt b 12).getLsbD 2 = u.target.cuts.rear ∧ (byteAt b 12).getLsbD 3 = u.target.cuts.supply ∧
      (byteAt b 12).extractLsb' 4 4 = 0#4 ∧
      (byteAt b 13).getLsbD 0 = r.permit.outputs.frontEn ∧ (byteAt b 13).getLsbD 1 = r.permit.outputs.rearEn ∧
      (byteAt b 13).getLsbD 2 = r.permit.outputs.regenEn ∧ (byteAt b 13).getLsbD 3 = r.permit.outputs.packTrip ∧
      (byteAt b 13).extractLsb' 4 2 = timerBits r.osc.part u.dwell ∧ (byteAt b 13).extractLsb' 6 2 = 0#2 ∧
      word16At b 14 = BitVec.ofNat 16 (u.dwell.getD 0) ∧
      ShowsAdoption b 16 (decide (r.osc.part = .run) && !isOut (r.map.health.get .frontCtl)) r.osc.part
        u.adoption.front ∧
      ShowsAdoption b 20 (decide (r.osc.part = .run) && !isOut (r.map.health.get .rearCtl)) r.osc.part
        u.adoption.rear

/-- READ_ELEMENT and READ_RETAINED of E0 to E10, by Table 11.5, and RANGE above E10. -/
def Obligations.ReadElementAndRetained : Prop :=
  ∀ (p : Port) (n : Byte) (s : State), Listens p s →
    let r := received p 0x12#8 [n] s
    let q := received p 0x14#8 [n] s
    (∀ e, n = BitVec.ofNat 8 (elementCode e) → ∃ t, exec (.readElement p n) s = .next t ∧
      Answered p 0x12#8 .ok [n, BitVec.ofNat 8 (healthCode (s.map.health.get e)), BitVec.ofNat 8 (s.map.budget.get e),
        BitVec.ofNat 8 (elementConfig s.osc.image e).budget,
        (if (s.retained.entries.get e).locked then 1#8 else 0#8),
        BitVec.ofNat 8 (s.table.records.filter (·.element == e)).length] r t) ∧
    (∀ e, n = BitVec.ofNat 8 (elementCode e) →
      let v := s.retained.entries.get e
      ∃ b t, exec (.readRetained p n) s = .next t ∧ Answered p 0x14#8 .ok b q t ∧ b.length = 8 ∧ byteAt b 0 = n ∧
        (byteAt b 1).getLsbD 0 = v.locked ∧ (byteAt b 1).getLsbD 1 = v.cls.isSome ∧
        (byteAt b 1).getLsbD 2 = v.keyCycle.isSome ∧ (byteAt b 1).extractLsb' 3 5 = 0#5 ∧
        byteAt b 2 = (match v.cls with | none => 0#8 | some c => BitVec.ofNat 8 (classCode c)) ∧
        word16At b 3 = BitVec.ofNat 16 (v.keyCycle.getD 0) ∧ byteAt b 5 = BitVec.ofNat 8 v.lockCount ∧
        word16At b 6 = BitVec.ofNat 16 s.retained.keyCycles) ∧
    (10 < n.toNat →
      (∃ t, exec (.readElement p n) s = .next t ∧ Answered p 0x12#8 .range [] r t) ∧
      (∃ t, exec (.readRetained p n) s = .next t ∧ Answered p 0x14#8 .range [] q t))

/-- READ_FAULT, by the bytes of Table 11.6: the record at the position, zeros past the count, RANGE above 31. -/
def Obligations.ReadFaultShowsTheRecord : Prop :=
  ∀ (p : Port) (n : Byte) (s : State), Listens p s →
    let r := received p 0x13#8 [n] s
    (31 < n.toNat → ∃ t, exec (.readFault p n) s = .next t ∧ Answered p 0x13#8 .range [] r t) ∧
    (n.toNat ≤ 31 → ∃ b t, exec (.readFault p n) s = .next t ∧ Answered p 0x13#8 .ok b r t ∧ b.length = 24 ∧
      byteAt b 0 = BitVec.ofNat 8 s.table.records.length ∧ (byteAt b 1).getLsbD 0 = s.table.overflow ∧
      (s.table.records[n.toNat]? = none → (byteAt b 1).extractLsb' 1 7 = 0#7 ∧ ∀ k, 2 ≤ k → byteAt b k = 0#8) ∧
      (∀ x, s.table.records[n.toNat]? = some x →
        (byteAt b 1).getLsbD 1 = true ∧ (byteAt b 1).getLsbD 2 = (x.state == .confirmed) ∧
        (byteAt b 1).getLsbD 3 = x.confirmedAt.isSome ∧ (byteAt b 1).getLsbD 4 = x.detail.isSome ∧
        (byteAt b 1).getLsbD 5 = x.line.isSome ∧ (byteAt b 1).getLsbD 6 = x.decay.isSome ∧
        (byteAt b 1).getLsbD 7 = false ∧ (byteAt b 2).extractLsb' 4 4 = BitVec.ofNat 4 (elementCode x.element) ∧
        (byteAt b 2).extractLsb' 0 4 = BitVec.ofNat 4 (classCode x.cls) ∧ byteAt b 3 = BitVec.ofNat 8 x.score ∧
        (byteAt b 4).getLsbD 0 = x.origins.front ∧ (byteAt b 4).getLsbD 1 = x.origins.rear ∧
        (byteAt b 4).getLsbD 2 = x.origins.pack ∧ (byteAt b 4).getLsbD 3 = x.origins.ride ∧
        (byteAt b 4).getLsbD 4 = x.origins.lines ∧ (byteAt b 4).getLsbD 5 = x.origins.monitor ∧
        (byteAt b 4).extractLsb' 6 2 = 0#2 ∧ word16At b 5 = BitVec.ofNat 16 x.reports ∧ word32At b 7 = x.firstAt ∧
        word32At b 11 = x.lastAt ∧ word32At b 15 = x.confirmedAt.getD 0#32 ∧ word16At b 19 = x.detail.getD 0#16 ∧
        byteAt b 21 = (match x.line with | none => 0#8 | some l => BitVec.ofNat 8 (lineCode l)) ∧
        word16At b 22 = BitVec.ofNat 16 (x.decay.getD 0)))

/-- READ_NOTICE returns the pending class of highest priority, by Table 11.4, and removes that class alone; from an empty
set it returns NONE. -/
def Obligations.ReadNoticeTakesTheFirstClass : Prop :=
  ∀ (p : Port) (s : State), Listens p s →
    let r := received p 0x15#8 [] s
    let v := (s.ports.get p).notices
    let left := fun w : NoticeSet => { r with ports := r.ports.set p { r.ports.get p with notices := w } }
    (∀ g, v.envelope = some g → ∃ t, exec (.readNotice p) s = .next t ∧
      Answered p 0x15#8 .ok [1#8, g.extractLsb' 0 8, g.extractLsb' 8 8, 0#8] (left { v with envelope := none }) t) ∧
    (∀ e w, v.envelope = none → v.ballot = some e → s.recovery.ballot = some w →
      ∃ b t, exec (.readNotice p) s = .next t ∧ Answered p 0x15#8 .ok b (left { v with ballot := none }) t ∧
        b.length = 4 ∧ byteAt b 0 = 2#8 ∧ byteAt b 1 = BitVec.ofNat 8 (elementCode e) ∧
        word16At b 2 = BitVec.ofNat 16 w.window) ∧
    (∀ e c, v.envelope = none → v.ballot = none → v.confirmed = some (e, c) →
      ∃ t, exec (.readNotice p) s = .next t ∧
        Answered p 0x15#8 .ok [3#8, BitVec.ofNat 8 (elementCode e),
          (match c with | none => 0xFF#8 | some c => BitVec.ofNat 8 (classCode c)), 0#8]
          (left { v with confirmed := none }) t) ∧
    (∀ e o, v.envelope = none → v.ballot = none → v.confirmed = none → v.trial = some (e, o) →
      ∃ t, exec (.readNotice p) s = .next t ∧
        Answered p 0x15#8 .ok ([4#8, BitVec.ofNat 8 (elementCode e)] ++ (match o with
          | .started .primary => [0#8, 0#8]
          | .started .nested => [0#8, 1#8]
          | .passed => [1#8, 0#8]
          | .failed => [2#8, 0#8]
          | .suspended => [3#8, 0#8]
          | .resumed => [4#8, 0#8]
          | .vetoed => [5#8, 0#8]
          | .lapsed => [6#8, 0#8]
          | .voided .confirmed => [7#8, 1#8]
          | .voided .portOut => [7#8, 2#8]
          | .voided .noSlot => [7#8, 3#8])) (left { v with trial := none }) t) ∧
    (∀ k, v.envelope = none → v.ballot = none → v.confirmed = none → v.trial = none → v.linkErr = some k →
      ∃ t, exec (.readNotice p) s = .next t ∧
        Answered p 0x15#8 .ok [5#8, (match k with
          | .stop => 1#8
          | .gap => 2#8
          | .length => 3#8
          | .crc => 4#8
          | .overlap => 5#8), 0#8, 0#8] (left { v with linkErr := none }) t) ∧
    (v = { envelope := none, ballot := none, confirmed := none, trial := none, linkErr := none } →
      ∃ t, exec (.readNotice p) s = .next t ∧ Answered p 0x15#8 .ok [0#8, 0#8, 0#8, 0#8] r t)

/-- READ_CONFIG returns an entry of the image as held, the fixed entries of C7 and P7, and the digests; any other section
or index is RANGE. -/
def Obligations.ReadConfigShowsTheEntry : Prop :=
  ∀ (p : Port) (k n : Byte) (s : State), Listens p s →
    let r := received p 0x16#8 [k, n] s
    let shows := fun entry : List Byte =>
      ∃ t, exec (.readConfig p k n) s = .next t ∧ Answered p 0x16#8 .ok (k :: n :: entry) r t
    (∀ sect, sectOf k = some sect → n.toNat < sectCount sect → shows (entryAt s.osc.image sect n.toNat)) ∧
    (k = 0#8 ∧ n = 7#8 → shows [255#8, 1#8, 0#8, 0#8, 0#8, 0#8]) ∧
    (k = 3#8 ∧ n = 7#8 → shows [0#8, 0#8, 0#8, 0#8]) ∧
    (k = 8#8 ∧ n = 0#8 → ∃ b, shows b ∧ b.length = 5 ∧ word16At b 0 = crc16 s.osc.image ∧
      byteAt b 2 = (if s.osc.frozen.isSome then 1#8 else 0#8) ∧ word16At b 3 = s.osc.frozen.getD 0#16) ∧
    ((∀ sect, sectOf k = some sect → sectCount sect ≤ n.toNat) → ¬((k = 0#8 ∨ k = 3#8) ∧ n = 7#8) →
      ¬(k = 8#8 ∧ n = 0#8) → Refused (.readConfig p k n) .range s)

/-! ## The controllers' evidence and limits -/

/-- CHECK_IN loads a supervised port's deadline and has no effect on another; the deadline's expiry loads it again and
reports a loss of contact on the port's controller. For a supervised port whose deadline value a corruption of the image
has made 0, that both load 0 and that the expiry reports, as R60 has it against R56's "makes no reports", is the model's
choice (assumption 6). -/
def Obligations.CheckInLoadsTheDeadline : Prop :=
  ∀ (p : Port) (s : State),
    (Listens p s → s.osc.part ≠ .failsafe → ∃ t, exec (.checkIn p) s = .next t ∧
      Answered p 0x20#8 .ok []
        { received p 0x20#8 [] s with
          contact := if s.contact.get p = none then s.contact
            else s.contact.set p (some (checkInValue s.osc.image p)) } t) ∧
    (Listens p s → s.osc.part = .failsafe → Refused (.checkIn p) .failsafe s) ∧
    (s.time.held = false → Running s → s.contact.get p = some 0 →
      exec (.checkInDeadlineExpiry p) s = .next (handReport (byMonitor (controllerOf p) .lossOfContact)
        { s with contact := s.contact.set p (some (checkInValue s.osc.image p)) }))

/-- REPORT is checked in the order of Table 3.3; an accepted one is handed to the fault table with its port as its
origin, and the reply carries the state in which the taking has left the record. -/
def Obligations.ReportIsCheckedAndTaken : Prop :=
  ∀ (p : Port) (eb cb : Byte) (detail : Option Half) (s : State), Listens p s →
    let i := Instr.report p eb cb detail
    (s.osc.part = .config → Refused i .notRunning s) ∧
    (s.osc.part = .failsafe → Refused i .failsafe s) ∧
    (Running s → portInService s p = false → Refused i .outOfService s) ∧
    (Running s → portInService s p = true → 10 < eb.toNat ∨ 4 < cb.toNat → Refused i .range s) ∧
    (∀ e c, Running s → portInService s p = true → eb = BitVec.ofNat 8 (elementCode e) →
      cb = BitVec.ofNat 8 (classCode c) → classCode c ≤ 4 →
      ((elementConfig s.osc.image e).rights.get p = false → Refused i .denied s) ∧
      ((elementConfig s.osc.image e).rights.get p = true →
        let left := handReport { element := e, cls := c, origin := originOf p, detail := detail, line := none,
                                 startVote := false } (received p 0x21#8 (reportPayload eb cb detail) s)
        ∃ t, exec i s = .next t ∧
          Answered p 0x21#8 .ok [match recordOf left e c with
            | none => 2#8
            | some x => if x.state = .suspect then 0#8 else 1#8] left t))

/-- SET_FLOOR is checked in the order of Table 4.6; an accepted one replaces the port's floor request, P0 by none, and a
changed one is followed by a recompute. -/
def Obligations.FloorRequestsAreCheckedAndSet : Prop :=
  ∀ (p : Port) (n : Byte) (s : State), Listens p s →
    let i := Instr.setFloor p n
    (s.osc.part = .config → Refused i .notRunning s) ∧
    (s.osc.part = .failsafe → Refused i .failsafe s) ∧
    (Running s → portInService s p = false → Refused i .outOfService s) ∧
    (Running s → portInService s p = true → 7 < n.toNat → Refused i .range s) ∧
    (∀ f, Running s → portInService s p = true → n = BitVec.ofNat 8 (profileRank f) →
      let r := received p 0x22#8 [n] s
      let floor := if f = .normal then none else some f
      let left := if s.unit.floors.get p = floor then r
        else recompute { r with unit.floors := s.unit.floors.set p floor }
      left.unit.floors.get p = floor ∧
      ∃ t, exec i s = .next t ∧
        Answered p 0x22#8 .ok [n, BitVec.ofNat 8 left.unit.target.env.severity] left t)

/-- ADOPT is checked in the order of Table 5.3; an accepted one clears what the port owes and sets its latch exactly when
the envelope allows its axle, and the outputs follow. -/
def Obligations.AdoptIsCheckedAndTaken : Prop :=
  ∀ (p : Port) (g : Half) (s : State), Listens p s →
    let i := Instr.adopt p g
    (s.osc.part = .config ∨ s.osc.part = .starting → Refused i .notRunning s) ∧
    (s.osc.part = .failsafe → Refused i .failsafe s) ∧
    (s.osc.part = .run → p = .pack ∨ p = .ride → Refused i .denied s) ∧
    (∀ d, s.osc.part = .run → p = portOfDrive d →
      (portInService s p = false → Refused i .outOfService s) ∧
      (portInService s p = true → g ≠ s.unit.generation → Refused i .stale s) ∧
      (portInService s p = true → g = s.unit.generation →
        let r := received p 0x23#8 (halfBytes g) s
        let a := s.unit.adoption.set d
          { lastAdopted := some g, pending := false, deadline := none, latch := axleAllowed s.unit.envelope d }
        ∃ t, exec i s = .next t ∧
          Answered p 0x23#8 .ok [g.setWidth 8, (g >>> 8).setWidth 8,
            if axleAllowed s.unit.envelope d then 1#8 else 0#8]
            { r with
              unit.adoption := a
              permit.outputs := outputsOf .run s.unit.envelope a.front.latch a.rear.latch } t))

/-- At the expiry of an adoption deadline the lapse is reported on the port's controller, and a port that is then still
in service and pending has its deadline started again (R97 generalised, assumption 11). A controller in service, not in TRIAL, whose lapse the table has
room for is ISOLATED, with its port owing nothing and its permit low. -/
def Obligations.AdoptionLapseIsReported : Prop :=
  ∀ (d : DrivePort) (s : State), s.time.held = false → s.osc.part = .run → (s.unit.adoption.get d).deadline = some 0 →
    let e := controllerOf (portOfDrive d)
    let u := handReport (byMonitor e .adoptionLapse)
      { s with unit.adoption := s.unit.adoption.set d { s.unit.adoption.get d with deadline := none } }
    exec (.adoptionDeadlineExpiry d) s = .next
      (if portInService u (portOfDrive d) = true ∧ (u.unit.adoption.get d).pending = true then
        { u with
          unit.adoption := u.unit.adoption.set d
            { u.unit.adoption.get d with deadline := some (globalConfig s.osc.image).adoption } }
      else u) ∧
    (s.map.health.get e = .inService ∨ s.map.health.get e = .degraded → recordOf s e .adoptionLapse = none →
      s.table.records.length < 32 ∨ (∃ x ∈ s.table.records, x.state = .suspect) →
      ∃ t, exec (.adoptionDeadlineExpiry d) s = .next t ∧ t.map.health.get e = .isolated ∧
        t.unit.adoption.get d =
          { lastAdopted := (s.unit.adoption.get d).lastAdopted, pending := false, deadline := none, latch := false } ∧
        drivenLevel t.permit.outputs d = false ∧
        ∃ x ∈ t.table.records, x.element = e ∧ x.cls = .adoptionLapse ∧ x.state = .confirmed)

/-! ## Ballots -/

/-- RELEASE is checked in the order of Table 7.4, with the trial slots read as Table 7.5 gives; one that passes opens a
ballot, and where others still have to answer, each of them is asked. Table 7.5 has NESTED occupied behind a SUSPENDED
PRIMARY alone; that NESTED gives BUSY without one, and behind a RUNNING one, is the model's choice (assumption 12). -/
def Obligations.ReleaseIsCheckedAndOpensABallot : Prop :=
  (∀ (r : RecoveryUnit) (e : Element),
    (r.primary = none → r.nested = none → slotFor r e = .ok .primary) ∧
    (∀ x, r.primary = some x → x.state = .running → slotFor r e = .error .busy) ∧
    (∀ x, r.primary = some x → x.state = .suspended → r.nested = none →
      slotFor r e = if elementGroup x.element = elementGroup e then .error .groupHeld else .ok .nested) ∧
    (∀ x, r.nested = some x → slotFor r e = .error .busy)) ∧
  ∀ (p : Port) (n : Byte) (s : State), Listens p s →
    let i := Instr.release p n
    (s.osc.part = .config ∨ s.osc.part = .starting → Refused i .notRunning s) ∧
    (s.osc.part = .failsafe → Refused i .failsafe s) ∧
    (s.osc.part = .run → portInService s p = false → Refused i .outOfService s) ∧
    (s.osc.part = .run → portInService s p = true → 10 < n.toNat → Refused i .range s) ∧
    (∀ e, s.osc.part = .run → portInService s p = true → n = BitVec.ofNat 8 (elementCode e) →
      let out := s.map.health.get e = .isolated ∨ s.map.health.get e = .degraded
      (¬out → Refused i .wrongState s) ∧
      (out → s.recovery.ballot ≠ none → Refused i .busy s) ∧
      (∀ st, out → s.recovery.ballot = none → slotFor s.recovery e = .error st → Refused i st s) ∧
      (∀ slot, out → s.recovery.ballot = none → slotFor s.recovery e = .ok slot →
        (∀ q, (consentSet e s).get q = ((elementConfig s.osc.image e).consent.get q && portInService s q)) ∧
        (s.map.budget.get e = 0 → Refused i .noBudget s) ∧
        (s.map.budget.get e ≠ 0 → (∀ q, (consentSet e s).get q = false) → Refused i .noQuorum s) ∧
        (∀ q, s.map.budget.get e ≠ 0 → (consentSet e s).get q = true → q ≠ p →
          let r := received p 0x30#8 [n] s
          let b : Ballot :=
            { element := e, requester := p, consent := consentSet e s,
              answered := (PerPort.const false).set p ((consentSet e s).get p),
              openedAt := s.time.uptime, window := (globalConfig s.osc.image).ballot }
          ∃ m left t, exec i s = .next t ∧ Answered p 0x30#8 .ok [0#8, 0#8, m] left t ∧
            ShowsPorts m 0 b.consent ∧ ShowsPorts m 4 b.answered ∧
            left = { r with recovery.ballot := some b, ports := left.ports } ∧
            ∀ k, left.ports.get k =
              { r.ports.get k with
                notices := { (r.ports.get k).notices with
                  ballot := if b.consent.get k = true ∧ k ≠ p then some e else (r.ports.get k).notices.ballot } })))

/-- CONSENT and VETO pass the same three checks; a VETO closes the ballot, a CONSENT that does not complete it joins the
answered set, and one from a port that has answered changes nothing. -/
def Obligations.ConsentAndVetoAnswerTheBallot : Prop :=
  ∀ (p : Port) (n : Byte) (s : State), Listens p s →
    (s.osc.part = .failsafe → Refused (.consent p n) .failsafe s ∧ Refused (.veto p n) .failsafe s) ∧
    (s.osc.part ≠ .failsafe →
      (∀ b, s.recovery.ballot = some b → n ≠ BitVec.ofNat 8 (elementCode b.element)) →
      Refused (.consent p n) .noBallot s ∧ Refused (.veto p n) .noBallot s) ∧
    (∀ b, s.osc.part ≠ .failsafe → s.recovery.ballot = some b → n = BitVec.ofNat 8 (elementCode b.element) →
      (b.consent.get p = false → Refused (.consent p n) .notAsked s ∧ Refused (.veto p n) .notAsked s) ∧
      (b.consent.get p = true → ∃ t, exec (.veto p n) s = .next t ∧
        Answered p 0x32#8 .ok [2#8, 0#8, 0#8] (closed b.element .vetoed (received p 0x32#8 [n] s)) t) ∧
      (b.consent.get p = true → b.answered.get p = true →
        ∃ m t, exec (.consent p n) s = .next t ∧ ShowsPorts m 0 b.consent ∧ ShowsPorts m 4 b.answered ∧
          Answered p 0x31#8 .ok [0#8, 0#8, m] (received p 0x31#8 [n] s) t) ∧
      (b.consent.get p = true → b.answered.get p = false → b.answered.set p true ≠ b.consent →
        let r := received p 0x31#8 [n] s
        ∃ m t, exec (.consent p n) s = .next t ∧ ShowsPorts m 0 b.consent ∧ ShowsPorts m 4 (b.answered.set p true) ∧
          Answered p 0x31#8 .ok [0#8, 0#8, m]
            { r with
              recovery.ballot := some { b with answered := b.answered.set p true }
              ports := r.ports.set p
                { r.ports.get p with notices := { (r.ports.get p).notices with ballot := none } } } t))

/-- A ballot passes at the CONSENT that completes it, or at a RELEASE whose requester alone is asked: it closes, and the
trial starts in the slot that Table 7.5 names, or the ballot is void for want of a slot. At the end of its window a
ballot lapses. -/
def Obligations.CompletedBallotsPassAndOthersLapse : Prop :=
  (∀ (p : Port) (s : State) (b : Ballot), Listens p s → s.osc.part ≠ .failsafe → s.recovery.ballot = some b →
    b.consent.get p = true → b.answered.get p = false → b.answered.set p true = b.consent →
    let n := BitVec.ofNat 8 (elementCode b.element)
    let r := received p 0x31#8 [n] s
    (∀ slot, slotFor s.recovery b.element = .ok slot →
      ∃ m t, exec (.consent p n) s = .next t ∧ ShowsPorts m 0 b.consent ∧ ShowsPorts m 4 b.consent ∧
        Answered p 0x31#8 .ok [1#8, BitVec.ofNat 8 (slotCode slot), m]
          (startTrial slot b.element (passed r)) t) ∧
    (∀ st, slotFor s.recovery b.element = .error st → ∃ t, exec (.consent p n) s = .next t ∧
      Answered p 0x31#8 .ok [3#8, 3#8, 0#8] (closed b.element (.voided .noSlot) r) t)) ∧
  (∀ (p : Port) (s : State) (e : Element) (slot : TrialSlot), Listens p s → s.osc.part = .run →
    portInService s p = true → s.map.health.get e = .isolated ∨ s.map.health.get e = .degraded →
    s.recovery.ballot = none → slotFor s.recovery e = .ok slot → s.map.budget.get e ≠ 0 →
    (∀ q, (consentSet e s).get q = true ↔ q = p) →
    let n := BitVec.ofNat 8 (elementCode e)
    ∃ m t, exec (.release p n) s = .next t ∧ ShowsPorts m 0 (consentSet e s) ∧ ShowsPorts m 4 (consentSet e s) ∧
      Answered p 0x30#8 .ok [1#8, BitVec.ofNat 8 (slotCode slot), m]
        (startTrial slot e (passed (received p 0x30#8 [n] s))) t) ∧
  (∀ (s : State) (b : Ballot), s.time.held = false → s.osc.part = .run → s.recovery.ballot = some b → b.window = 0 →
    exec .ballotWindowExpiry s = .next (closed b.element .lapsed s))

/-! ## The start vote, the configuration, the service clearance -/

/-- START is checked in the order of R168, and in STARTING with a corrupted image every START is refused; the first one
enters STARTING, a later one joins the started set, and the one that completes the set enters RUN. -/
def Obligations.StartIsCheckedAndCounted : Prop :=
  ∀ (p : Port) (named : Half) (s : State), Listens p s →
    let i := Instr.start p named
    let r := received p 0x40#8 (halfBytes named) s
    let supervised := if checkInValue s.osc.image p ≠ 0 ∧ s.contact.get p = none ∧ portInService s p = true then
      s.contact.set p (some (checkInValue s.osc.image p)) else s.contact
    let joined := s.osc.started.set p true
    let shows := fun (b : List Byte) (v : PortSet) (w : Half) =>
      b.length = 3 ∧ ShowsPorts (byteAt b 0) 0 v ∧ (byteAt b 0).extractLsb' 4 4 = 0#4 ∧ word16At b 1 = w
    (s.osc.part = .failsafe → Refused i .failsafe s) ∧
    (s.osc.part = .run → Refused i .wrongState s) ∧
    (s.osc.part = .config ∨ s.osc.part = .starting → named ≠ crc16 s.osc.image → Refused i .digestMismatch s) ∧
    (∀ frozen, s.osc.part = .starting → s.osc.frozen = some frozen → frozen ≠ crc16 s.osc.image →
      Refused i .digestMismatch s) ∧
    (s.osc.part = .config → named = crc16 s.osc.image → ∃ b t, exec i s = .next t ∧
      shows b joined (BitVec.ofNat 16 (globalConfig s.osc.image).startWindow) ∧
      Answered p 0x40#8 .ok b
        { r with
          contact := supervised
          osc.part := .starting
          osc.arm := false
          osc.frozen := some named
          osc.started := joined
          osc.startWindow := some (globalConfig s.osc.image).startWindow
          osc.integrity := some 100 } t) ∧
    (s.osc.part = .starting → named = crc16 s.osc.image → s.osc.frozen = some named → s.osc.started.get p = true →
      ∃ b t, exec i s = .next t ∧
      shows b s.osc.started (match s.osc.startWindow with | none => 0xFFFF#16 | some n => BitVec.ofNat 16 n) ∧
      Answered p 0x40#8 .ok b r t) ∧
    (s.osc.part = .starting → named = crc16 s.osc.image → s.osc.frozen = some named → s.osc.started.get p = false →
      joined ≠ PerPort.const true →
      ∃ b t, exec i s = .next t ∧
        shows b joined (match s.osc.startWindow with | none => 0xFFFF#16 | some n => BitVec.ofNat 16 n) ∧
        Answered p 0x40#8 .ok b { r with contact := supervised, osc.started := joined } t) ∧
    (s.osc.part = .starting → named = crc16 s.osc.image → s.osc.frozen = some named → s.osc.started.get p = false →
      joined = PerPort.const true →
      ∃ b t, exec i s = .next t ∧ shows b joined 0xFFFF#16 ∧
        Answered p 0x40#8 .ok b (runEntry { r with contact := supervised, osc.started := joined }) t)

/-- At the expiry of the start window a start-vote report is made for each port that has not started, FRONT to RIDE, and
RUN is entered. -/
def Obligations.StartWindowExpiryEntersRun : Prop :=
  ∀ s : State, s.time.held = false → s.osc.part = .starting → s.osc.startWindow = some 0 →
    let vote := fun (p : Port) (u : State) =>
      if s.osc.started.get p then u
      else handReport { element := controllerOf p, cls := .lossOfContact, origin := .monitor, detail := none,
                        line := none, startVote := true } u
    exec .startWindowExpiry s = .next (runEntry (vote .ride (vote .pack (vote .rear (vote .front s)))))

/-- What RUN entry leaves: the part in RUN, the locked elements out, the envelope at the target with the ENVELOPE notice
on every port, the drive ports in service owing an adoption and their permits low, and the ports in service
supervised. -/
def Obligations.RunEntryTakesItsFourSteps : Prop :=
  ∀ s : State, s.osc.part = .starting → NoRecoveryBeforeRun s → NothingPendingBeforeRun s → LatchesHold s →
    let t := runEntry s
    t.osc.part = .run ∧ t.osc.startWindow = none ∧ t.osc.started = s.osc.started ∧ t.osc.frozen = s.osc.frozen ∧
    t.osc.integrity = s.osc.integrity ∧ t.recovery = s.recovery ∧ t.table = s.table ∧ t.map.budget = s.map.budget ∧
    (∀ e, t.map.health.get e = if (s.retained.entries.get e).locked then .lockedOut else s.map.health.get e) ∧
    t.unit.target = targetOf s.osc.image t.map.health t.unit.floors s.table.overflow ∧
    t.unit.envelope = t.unit.target.env ∧ t.unit.dwell = none ∧
    t.unit.generation = (if t.unit.envelope = s.unit.envelope then s.unit.generation else s.unit.generation + 1) ∧
    (∀ p, (t.ports.get p).notices.envelope = some t.unit.generation) ∧
    (∀ p, t.unit.floors.get p = if portInService t p = true ∨ portInService s p = false then s.unit.floors.get p
      else none) ∧
    (∀ d, (t.unit.adoption.get d).latch = false ∧
      (portInService t (portOfDrive d) = true → (t.unit.adoption.get d).pending = true ∧
        (t.unit.adoption.get d).deadline = some (globalConfig s.osc.image).adoption) ∧
      (portInService t (portOfDrive d) = false → (t.unit.adoption.get d).pending = false ∧
        (t.unit.adoption.get d).deadline = none)) ∧
    t.permit.outputs = { frontEn := false, rearEn := false, regenEn := t.unit.envelope.limits.regen, packTrip := false } ∧
    (∀ p, portInService t p = true → s.contact.get p = none → checkInValue s.osc.image p ≠ 0 →
      t.contact.get p = some (checkInValue s.osc.image p))

/-- WRITE_CONFIG is checked in the order of Table 10.5; an accepted one replaces the entry, an ELEMENT entry reloads its
budget, and a PROFILE or MODERULE entry is followed by a new target. -/
def Obligations.WriteConfigIsCheckedAndTaken : Prop :=
  ∀ (p : Port) (kb n : Byte) (entry : List Byte) (s : State), Listens p s → 1 ≤ entry.length → entry.length ≤ 7 →
    let i := Instr.writeConfig p kb n entry
    (s.osc.part = .failsafe → Refused i .failsafe s) ∧
    (s.osc.part = .starting ∨ s.osc.part = .run → Refused i .wrongState s) ∧
    (s.osc.part = .config → p ≠ s.osc.configPort → Refused i .denied s) ∧
    (s.osc.part = .config → p = s.osc.configPort →
      (∀ k, sectOf kb = some k → n.toNat < sectCount k → fieldsInRange k entry = true → crossFields k entry = false) →
      Refused i .range s) ∧
    (∀ k, s.osc.part = .config → p = s.osc.configPort → sectOf kb = some k → n.toNat < sectCount k →
      fieldsInRange k entry = true → crossFields k entry = true →
      let r := received p 0x41#8 (kb :: n :: entry) s
      let im := putEntry s.osc.image k n.toNat entry
      ∃ left t, exec i s = .next t ∧ Answered p 0x41#8 .ok [] left t ∧
        (k = .cls ∨ k = .group ∨ k = .line ∨ k = .port ∨ k = .glob → left = { r with osc.image := im }) ∧
        (k = .profile ∨ k = .modeRule → left =
          { r with
            osc.image := im
            unit.target := targetOf im s.map.health s.unit.floors s.table.overflow }) ∧
        (∀ e, k = .element → n.toNat = elementCode e → ImageLength s → left =
          { r with
            osc.image := im
            map.budget := s.map.budget.set e (byteAt entry 2).toNat }))

/-- SERVICE_ARM and SERVICE_CLEAR are checked in the order of Tables 9.2 and 9.3. An accepted SERVICE_CLEAR unlocks the
entries it names, keeps all else of them, and clears the arm, which one refused with RANGE clears too; the other
refusals leave the arm as it was. That a refused SERVICE_ARM of the configuration port leaves a set arm is R154 against
Table 9.4 of R156, as the model reads them (assumption 10). -/
def Obligations.ServiceRequestsAreCheckedAndTaken : Prop :=
  ∀ (p : Port) (n : Byte) (s : State), Listens p s →
    let a := framed p 0x48#8 [] s
    let c := framed p 0x49#8 [n] s
    let arms := fun (st : Status) (left : State) =>
      ∃ t, exec (.serviceArm p) s = .next t ∧ Answered p 0x48#8 st [] left t
    let clears := fun (st : Status) (b : List Byte) (left : State) =>
      ∃ t, exec (.serviceClear p n) s = .next t ∧ Answered p 0x49#8 st b left t
    (s.osc.part = .failsafe → arms .failsafe a ∧ clears .failsafe [] c) ∧
    (s.osc.part = .starting ∨ s.osc.part = .run → arms .wrongState a) ∧
    (s.osc.part = .config → p ≠ s.osc.configPort ∨ s.osc.svc = false → arms .denied a) ∧
    (s.osc.part = .config → p = s.osc.configPort → s.osc.svc = true → arms .ok { a with osc.arm := true }) ∧
    (s.osc.part ≠ .failsafe → p ≠ s.osc.configPort → clears .denied [] c) ∧
    (s.osc.part ≠ .failsafe → p = s.osc.configPort → s.osc.arm = false → clears .notArmed [] c) ∧
    (s.osc.part ≠ .failsafe → p = s.osc.configPort → s.osc.arm = true → 10 < n.toNat → n ≠ 0xFF#8 →
      clears .range [] { c with osc.arm := false }) ∧
    (s.osc.part ≠ .failsafe → p = s.osc.configPort → s.osc.arm = true → n.toNat ≤ 10 ∨ n = 0xFF#8 →
      let named := fun e => n = 0xFF#8 ∨ n = BitVec.ofNat 8 (elementCode e)
      clears .ok
        [BitVec.ofNat 8 (allElements.filter fun e => decide (named e) && (s.retained.entries.get e).locked).length]
        { c with
          osc.arm := false
          retained.entries := PerElement.of fun e =>
            { s.retained.entries.get e with
              locked := if named e then false else (s.retained.entries.get e).locked } })

/-! ## The link ports -/

/-- The link port answers an unknown code UNKNOWN and a wrong length RANGE; the first byte of a frame is received on a
port that is IDLE; and a reply that has been sent leaves the port IDLE. A discard records its kind, posts LINKERR to its
own port, empties the buffer, clears the service arm of the configuration port, and reports on the port's controller. A
STOP, LENGTH, CRC or GAP discard leaves the port IDLE; the first byte or frame that comes while a port is REPLYING is an
OVERLAP discard, which leaves the reply, and later ones are ignored (that these commands act so is assumption 8). -/
def Obligations.LinkPortsAnswerReceiveAndDiscard : Prop :=
  (∀ (p : Port) (code : Byte) (payload : List Byte) (s : State), Listens p s → payload.length ≤ 24 →
    let i := Instr.unknownRequest p code payload
    let known := code.toNat ∈ [0x10, 0x11, 0x12, 0x13, 0x14, 0x15, 0x16, 0x20, 0x21, 0x22, 0x23, 0x30, 0x31, 0x32, 0x40,
      0x41, 0x48, 0x49]
    (¬known → Refused i .unknown s) ∧ (known → i.wellFormed = true → Refused i .range s)) ∧
  (∀ (p : Port) (b : Byte) (s : State), s.time.held = false → (s.ports.get p).receiver = .idle →
    exec (.frameStart p b) s =
      .next { s with ports := s.ports.set p { s.ports.get p with receiver := .receiving, buffer := [b] } }) ∧
  (∀ (p : Port) (s : State), s.time.held = false → (s.ports.get p).receiver = .replying →
    exec (.replyComplete p) s = .next
      { s with
        ports := s.ports.set p { s.ports.get p with receiver := .idle, reply := none, overlapped := false } }) ∧
  (∀ (p : Port) (s : State), s.time.held = false →
     let discarded := fun (k : LinkError) (v : LinkPort) =>
       handReport (byMonitor (controllerOf p) .frameIntegrity)
         { s with
           ports := s.ports.set p
             { v with lastError := some k, buffer := [], notices := { v.notices with linkErr := some k } }
           osc.arm := s.osc.arm && decide (p ≠ s.osc.configPort) }
     let v := s.ports.get p
     (v.receiver ≠ .replying →
       exec (.frameDiscard p .stop) s = .next (discarded .stop { v with receiver := .idle }) ∧
       exec (.frameDiscard p .length) s = .next (discarded .length { v with receiver := .idle }) ∧
       exec (.frameDiscard p .crc) s = .next (discarded .crc { v with receiver := .idle })) ∧
     (v.receiver = .receiving → exec (.gapDiscard p) s = .next (discarded .gap { v with receiver := .idle })) ∧
     (∀ i, v.receiver = .replying → i.wellFormed = true →
       requestPort i = some p ∨ (∃ k, i = .frameDiscard p k) ∨ (∃ b, i = .frameStart p b) →
       exec i s = .next (if v.overlapped then s else discarded .overlap { v with overlapped := true })))

/-! ## Resets -/

/-- A power-on reset gives every block its reset values and samples the straps; a key-cycle reset keeps the image, the
configuration port and the retained map, and counts the key cycle. Either holds the part in reset, where no other
command has an effect (assumption 9), until RESET_END, from which the uptime counts from 0. -/
def Obligations.ResetsGiveTheResetValues : Prop :=
  (∀ (c1 c0 : Bool) (s : State), exec (.powerOnReset c1 c0) s = .next
    { State.reset with
      time := { uptime := s.time.uptime, held := true }
      osc.configPort := match c1, c0 with
        | false, false => .ride
        | false, true => .pack
        | true, false => .front
        | true, true => .rear
      pending := s.pending }) ∧
  (∀ s : State, s.time.held = false → exec .keyCycleReset s = .next
    { State.reset with
      time := { uptime := s.time.uptime, held := true }
      map.budget := PerElement.of fun e => (elementConfig s.osc.image e).budget
      unit.target := targetOf s.osc.image (PerElement.of fun _ => .inService) (PerPort.const none) false
      retained := { entries := s.retained.entries, keyCycles := min 65535 (s.retained.keyCycles + 1) }
      osc.image := s.osc.image
      osc.configPort := s.osc.configPort
      pending := s.pending }) ∧
  (∀ s : State, s.time.held = true → exec .resetEnd s = .next { s with time := { uptime := 0#32, held := false } }) ∧
  (∀ (i : Instr) (s : State), s.time.held = true → (∀ c1 c0, i ≠ .powerOnReset c1 c0) → i ≠ .resetEnd →
    exec i s = .next s)

/-! ## Timers, samples and the clock -/

/-- At the expiry of a SUSPECT record's decay timer its score falls by 1; the record stays, with its timer restarted, while
the score is above the clear threshold, and leaves the table otherwise. -/
def Obligations.DecayLowersTheScore : Prop :=
  ∀ (e : Element) (c : FaultClass) (s : State) (x : FaultRecord), s.time.held = false → Running s → TableWellFormed s →
    x ∈ s.table.records → x.element = e → x.cls = c → x.state = .suspect → x.decay = some 0 →
    let k := classParams s.osc.image c
    let same := fun y : FaultRecord => y.element == e && y.cls == c
    exec (.decayExpiry e c) s = .next
      { s with
        table.records := if k.clear < x.score - 1 then
            s.table.records.map fun y => if same y then { y with score := x.score - 1, decay := some k.decay } else y
          else s.table.records.filter fun y => !same y }

/-- At the expiry of a RUNNING trial's remaining time the trial passes: its slot is empty, its element is IN_SERVICE with
its budget and every record unchanged, and the notices say so, PASSED or, of a PRIMARY trial that the end of NESTED lets
go on, RESUMED. -/
def Obligations.TrialsPassAtTheirExpiry : Prop :=
  ∀ (slot : TrialSlot) (s : State) (x : Trial), s.time.held = false → s.osc.part = .run → TrialsAgree s →
    trialIn s.recovery slot = some x → x.state = .running → x.remaining = 0 →
    ∃ t, exec (.trialExpiry slot) s = .next t ∧
      t.recovery.nested = none ∧ (slot = .primary → t.recovery.primary = none) ∧
      (∀ y, slot = .nested → s.recovery.primary = some y →
        (Suspends (elementGroup y.element) t.unit.envelope → t.recovery.primary = some y) ∧
        (¬Suspends (elementGroup y.element) t.unit.envelope →
          t.recovery.primary = some { y with state := .running })) ∧
      (∀ k, t.map.health.get k = if k = x.element then .inService else s.map.health.get k) ∧
      t.map.budget = s.map.budget ∧ t.table = s.table ∧ t.recovery.ballot = s.recovery.ballot ∧
      (∀ p, (t.ports.get p).notices.confirmed = some (x.element, none)) ∧
      (slot = .primary → ∀ p, (t.ports.get p).notices.trial = some (x.element, .passed)) ∧
      Noticed s t (x.element, none) false (if slot = .primary then none else s.recovery.primary)
        (some (x.element, .passed)) ∧
      t.unit.target = targetOf s.osc.image t.map.health s.unit.floors s.table.overflow

/-- A readback sample compares FRB and RRB with the outputs as they stand when it is taken; each comparison counts a
mismatch of its own permit, and forgets them at a match (Table 6.2); one that brings a counter to 3 requests FAILSAFE,
after both have been made, and so does an integrity check that finds the digest changed. Where both counters reach 3 on
one sample, the command names the request that is taken first (assumption 14). READBACK_MISMATCH is the sample with that
third mismatch. FAILSAFE entry, whole: the cause record,
the SAFE_STOP envelope with its generation, the latches, the ENVELOPE notice and the outputs, and nothing else; in
FAILSAFE a request for it has no effect. -/
def Obligations.ReadbackAndIntegrityStopTheDrive : Prop :=
  (∀ (first : DrivePort) (v : Readback) (s : State), s.time.held = false →
    let shown := fun d : DrivePort => match d with | .front => v.frb | .rear => v.rrb
    let other := match first with | .front => DrivePort.rear | .rear => DrivePort.front
    let cause := fun d : DrivePort => match d with | .front => Cause.readbackFront | .rear => Cause.readbackRear
    let n := fun d => s.permit.mismatch.get d
    let differs := fun d => shown d != drivenLevel s.permit.outputs d
    let counted := { s with
      permit.mismatch := PerDrive.mk
        (if differs .front then (if n .front < 3 then n .front + 1 else 3) else 0)
        (if differs .rear then (if n .rear < 3 then n .rear + 1 else 3) else 0) }
    let requests := fun (d : DrivePort) (u : State) => if differs d && n d == 2 then requestFailsafe (cause d) u else u
    exec (.readbackSample first v) s = .next (requests other (requests first counted)) ∧
    (differs first = true → n first = 2 →
      exec (.readbackMismatch { drive := first, other := shown other }) s = .next (requests other (requests first counted)))) ∧
  (∀ s : State, s.time.held = false → Running s → s.osc.integrity = some 0 →
    let u := { s with osc.integrity := some 100 }
    exec .integrityCheckExpiry s = .next
      (if s.osc.frozen = some (crc16 s.osc.image) then u else requestFailsafe .configIntegrity u)) ∧
  (∀ (cause : Cause) (s : State),
     (s.osc.part = .failsafe → requestFailsafe cause s = s) ∧
     (s.osc.part ≠ .failsafe →
       let g := if s.unit.envelope = safeStop then s.unit.generation else s.unit.generation + 1
       requestFailsafe cause s =
         { s with
           osc.part := .failsafe
           osc.arm := false
           osc.cause := { cause := cause, enteredAt := some s.time.uptime, enteredFrom := some s.osc.part }
           unit.envelope := safeStop
           unit.generation := g
           unit.adoption :=
             { front := { s.unit.adoption.front with latch := false }
               rear := { s.unit.adoption.rear with latch := false } }
           permit.outputs := { frontEn := false, rearEn := false, regenEn := false, packTrip := true }
           ports := s.ports.map fun v => { v with notices := { v.notices with envelope := some g } } }))

/-- One sample of a fault line, by Table 3.6 for a LEVEL line and by R53 for an EDGE line, with the line report where one
is made. LINE_QUALIFY, LINE_UNQUALIFY and LINE_EDGE are the samples that they name. A line that is not enabled, or not
sampled in its part state, keeps its filter. For a line whose entry a corruption of the image has changed, that one whose
mode is flipped goes on from the state of its new mode, that one which is disabled keeps its filter as it stood, and what
one reports whose element or class code is out of range, is the model's choice (assumption 6). -/
def Obligations.LinesFilterAndReport : Prop :=
  ∀ (l : FaultLine) (high : Bool) (s : State), s.time.held = false →
    let v := lineConfig s.osc.image l
    let f := s.lines.get l
    let filters := fun w => { s with lines := s.lines.set l w }
    let reports := fun w => handReport { element := v.element, cls := v.cls, origin := .lines, detail := none,
                                         line := some l, startVote := false } (filters w)
    let active := high = !v.low
    (¬Running s ∨ v.enabled = false → exec (.lineSample l high) s = .next s) ∧
    (Running s → v.enabled = true → v.mode = .level →
      (active → f.qualified = false → f.run + 1 < v.filter →
        exec (.lineSample l high) s = .next (filters { f with run := f.run + 1 })) ∧
      (active → f.qualified = false → f.run + 1 = v.filter →
        exec (.lineSample l high) s = .next (reports { f with qualified := true, run := 0 }) ∧
        exec (.lineQualify l) s = .next (reports { f with qualified := true, run := 0 })) ∧
      (¬active → f.qualified = false → exec (.lineSample l high) s = .next (filters { f with run := 0 })) ∧
      (¬active → f.qualified = true → f.run + 1 < v.filter →
        exec (.lineSample l high) s = .next (filters { f with run := f.run + 1 })) ∧
      (¬active → f.qualified = true → f.run + 1 = v.filter →
        exec (.lineSample l high) s = .next (filters { f with qualified := false, run := 0 }) ∧
        exec (.lineUnqualify l) s = .next (filters { f with qualified := false, run := 0 })) ∧
      (active → f.qualified = true → exec (.lineSample l high) s = .next (filters { f with run := 0 }))) ∧
    (Running s → v.enabled = true → v.mode = .edge →
      (f.reference = none ∨ f.reference = some high ∨ ¬active →
        exec (.lineSample l high) s = .next (filters { f with reference := some high })) ∧
      (f.reference = some (!high) → active →
        exec (.lineSample l high) s = .next (reports { f with reference := some high }) ∧
        exec (.lineEdge l) s = .next (reports { f with reference := some high })))

/-- SVC samples set the SVC level, and a deasserted one clears the service arm; a millisecond boundary advances the uptime
and every timer that runs, but in FAILSAFE the uptime alone (whole milliseconds are assumption 3); a corruption changes
one byte of the stored image, once the digest is frozen (assumption 6). -/
def Obligations.ClockAndInputsAreTaken : Prop :=
  ∀ s : State, s.time.held = false →
    exec .svcAsserted s = .next { s with osc.svc := true } ∧
    exec .svcDeasserted s = .next { s with osc.svc := false, osc.arm := false } ∧
    (s.osc.part = .failsafe → exec .millisecondTick s = .next { s with time.uptime := s.time.uptime + 1 }) ∧
    (s.osc.part ≠ .failsafe →
      let less := fun t : Timer => t.map fun n => n - 1
      let trial := fun x : Trial => match x.state with
        | .running => { x with remaining := x.remaining - 1 }
        | .suspended => x
      exec .millisecondTick s = .next
        { s with
          time.uptime := s.time.uptime + 1
          table.records := s.table.records.map fun x => { x with decay := less x.decay }
          contact := s.contact.map less
          unit.dwell := less s.unit.dwell
          unit.adoption :=
            { front := { s.unit.adoption.front with deadline := less s.unit.adoption.front.deadline }
              rear := { s.unit.adoption.rear with deadline := less s.unit.adoption.rear.deadline } }
          recovery :=
            { ballot := s.recovery.ballot.map fun b => { b with window := b.window - 1 }
              primary := s.recovery.primary.map trial
              nested := s.recovery.nested.map trial }
          osc.startWindow := less s.osc.startWindow
          osc.integrity := less s.osc.integrity }) ∧
    (∀ (k : Fin 236) (b : Byte), s.osc.frozen.isSome = true →
      exec (.configurationImageCorruption k b) s = .next { s with osc.image := s.osc.image.set k.val b })

/-! ## The envelope and the target -/

/-- A recompute computes the target; outside RUN that is all, and in RUN the publishing step acts by Table 5.1, or sets the
envelope to the target at once when the dwell time is 0; that it then also cancels a dwell that is running is the model's
reading (assumption 11). At its expiry the dwell ends with the envelope at the target. -/
def Obligations.PublishingFollowsTheTable : Prop :=
  ∀ s : State,
    let target := targetOf s.osc.image s.map.health s.unit.floors s.table.overflow
    let u := fun t : Timer => { s with unit.target := target, unit.dwell := t }
    let dwell := (globalConfig s.osc.image).dwell
    let tight := s.unit.envelope.tighter target.env
    (s.osc.part ≠ .run → recompute s = { s with unit.target := target }) ∧
    (s.osc.part = .run → dwell = 0 → recompute s = changeEnvelope target.env (u none)) ∧
    (s.osc.part = .run → dwell ≠ 0 →
      (tight ≠ s.unit.envelope → tight = target.env → recompute s = changeEnvelope tight (u none)) ∧
      (tight ≠ s.unit.envelope → tight ≠ target.env → recompute s = changeEnvelope tight (u (some dwell))) ∧
      (tight = s.unit.envelope → s.unit.envelope = target.env → recompute s = u none) ∧
      (tight = s.unit.envelope → s.unit.envelope ≠ target.env →
        recompute s = u (match s.unit.dwell with | none => some dwell | some n => some n))) ∧
    (s.time.held = false → s.osc.part = .run → s.unit.dwell = some 0 →
      exec .dwellExpiry s = .next (changeEnvelope s.unit.target.env { s with unit.dwell := none }))

/-- A change of the envelope, whole: the next generation, the latches of forbidden axles cleared, the ENVELOPE notice, the
adoption round, the evaluation of the PRIMARY trial with its SUSPENDED or RESUMED notice, the outputs, and nothing else;
the value that stands already changes nothing. -/
def Obligations.EnvelopeChangesHaveTheirEffects : Prop :=
  ∀ (v : Envelope) (s : State),
    (v = s.unit.envelope → changeEnvelope v s = s) ∧
    (v ≠ s.unit.envelope →
      let t := changeEnvelope v s
      t.unit.envelope = v ∧ t.unit.generation = s.unit.generation + 1 ∧
      (∀ p, (t.ports.get p).notices.envelope = some (s.unit.generation + 1)) ∧
      (∀ d, t.unit.adoption.get d =
        { lastAdopted := (s.unit.adoption.get d).lastAdopted
          pending := (s.unit.adoption.get d).pending || portRequired s d
          deadline := if portRequired s d = true ∧ (s.unit.adoption.get d).deadline = none then
            some (globalConfig s.osc.image).adoption else (s.unit.adoption.get d).deadline
          latch := (s.unit.adoption.get d).latch && axleAllowed v d }) ∧
      t.permit.outputs = outputsOf s.osc.part v t.unit.adoption.front.latch t.unit.adoption.rear.latch ∧
      (s.recovery.primary = none → t.recovery.primary = none) ∧
      (∀ x, s.recovery.primary = some x → t.recovery.primary = some
        { x with
          state := if suspensionHolds (elementGroup x.element) v = true then .suspended
            else if s.recovery.nested = none then .running else x.state }) ∧
      (∀ g, suspensionHolds g v = true ↔ Suspends g v) ∧
      (∀ x, s.recovery.primary = some x → x.state = .running → Suspends (elementGroup x.element) v →
        ∀ p, (t.ports.get p).notices.trial = some (x.element, .suspended)) ∧
      (∀ x, s.recovery.primary = some x → x.state = .suspended → ¬Suspends (elementGroup x.element) v →
        s.recovery.nested = none → ∀ p, (t.ports.get p).notices.trial = some (x.element, .resumed)) ∧
      t = { s with
        ports := s.ports.map fun w =>
          { w with
            notices :=
              { w.notices with
                envelope := some (s.unit.generation + 1)
                trial := evaluationNotice s.recovery.primary t.recovery.primary w.notices.trial } }
        unit := { s.unit with
          envelope := t.unit.envelope, generation := t.unit.generation, adoption := t.unit.adoption }
        permit.outputs := t.permit.outputs
        recovery.primary := t.recovery.primary })

/-- The severity of the target is the highest of the ranks of its demands and the severity floors of its cuts. -/
def Obligations.SeverityIsTheHighest : Prop :=
  ∀ (image : List Byte) (health : PerElement Health) (floors : PerPort (Option ProfileId)) (overflow : Bool),
    let ds := demands image health floors overflow
    let t := targetOf image health floors overflow
    let ranks := ds.map profileRank ++ (if t.cuts.front then [2] else []) ++ (if t.cuts.rear then [3] else []) ++
      (if t.cuts.supply then [4] else [])
    .normal ∈ ds ∧ t.env.severity ∈ ranks ∧ ∀ n ∈ ranks, n ≤ t.env.severity

/-- The demands are the baseline, the target profiles of the mode rules that match, the floor requests in force and, while
overflow is set, P7; a rule matches as Table 4.4 lays down, and a cut applies as Table 4.8 does. Each limit field of the
target is the tightest that any demand holds in that field, and a cut forces its allowance to no. -/
def Obligations.TargetCombinesItsDemands : Prop :=
  (∀ (image : List Byte) (health : PerElement Health) (floors : PerPort (Option ProfileId)) (overflow : Bool),
     let t := targetOf image health floors overflow
     let out := fun e => health.get e = .isolated ∨ health.get e = .lockedOut
     (∀ f, f ∈ demands image health floors overflow ↔
       f = .normal ∨ (∃ n ∈ t.matched, f = (modeRule image n).target) ∨ (∃ p, floors.get p = some f) ∨
       (overflow = true ∧ f = .safeStop)) ∧
     (∀ n, n ∈ t.matched ↔ n < 16 ∧ (modeRule image n).valid = true ∧
       ∀ e, (modeRule image n).care.get e = true →
         match (modeRule image n).category.get e with
         | .ok => health.get e = .inService
         | .impaired => health.get e = .degraded ∨ health.get e = .trial
         | .out => out e
         | .notOk => health.get e ≠ .inService) ∧
     (t.cuts.front = true ↔ out .frontPower ∨ out .frontMotor ∨ out .frontCtl) ∧
     (t.cuts.rear = true ↔ out .rearPower ∨ out .rearMotor ∨ out .rearCtl) ∧
     (t.cuts.supply = true ↔ out .packCells ∨ out .packCtl) ∧
     t.floors = floors ∧ t.overflowDemand = overflow) ∧
  (∀ (image : List Byte) (health : PerElement Health) (floors : PerPort (Option ProfileId)) (overflow : Bool),
     let ds := demands image health floors overflow
     let t := targetOf image health floors overflow
     (∀ f ∈ ds, t.env.limits.frontCap ≤ (profileLimits image f).frontCap ∧
       t.env.limits.rearCap ≤ (profileLimits image f).rearCap ∧
       t.env.limits.speedCap ≤ (profileLimits image f).speedCap) ∧
     (∃ f ∈ ds, t.env.limits.frontCap = (profileLimits image f).frontCap) ∧
     (∃ f ∈ ds, t.env.limits.rearCap = (profileLimits image f).rearCap) ∧
     (∃ f ∈ ds, t.env.limits.speedCap = (profileLimits image f).speedCap) ∧
     (t.env.limits.regen = true ↔ t.cuts.supply = false ∧ ∀ f ∈ ds, (profileLimits image f).regen = true) ∧
     (t.env.limits.frontDrive = true ↔ t.cuts.front = false ∧ ∀ f ∈ ds, (profileLimits image f).frontDrive = true) ∧
     (t.env.limits.rearDrive = true ↔ t.cuts.rear = false ∧ ∀ f ∈ ds, (profileLimits image f).rearDrive = true))

/-- While overflow is set the target is SAFE_STOP with severity 7, whatever else is demanded, and still shows the rules,
floors and cuts as they stand; and only a reset clears overflow. -/
def Obligations.OverflowDemandsSafeStop : Prop :=
  (∀ (image : List Byte) (health : PerElement Health) (floors : PerPort (Option ProfileId)),
    targetOf image health floors true =
      { targetOf image health floors false with
        env :=
          { limits := { frontCap := 0, rearCap := 0, speedCap := 0, regen := false, frontDrive := false,
                        rearDrive := false }
            severity := 7 }
        overflowDemand := true }) ∧
  (∀ (i : Instr) (s t : State), exec i s = .next t → isReset i = false → s.table.overflow = true →
    t.table.overflow = true)

/-! ## Reports, claims and trials -/

/-- A report is taken in STARTING and RUN alone. It joins the record of its pair, or makes a new one when there is room;
while no condition of R31 holds, that is all it does, and a report into a CONFIRMED record does no more. R26 says that a
CONFIRMED record is never of an element in TRIAL; that such a report would be scored and fail no trial is the model's
choice (assumption 12). -/
def Obligations.ReportsAreScored : Prop :=
  ∀ (r : FaultReport) (s : State),
    let k := classParams s.osc.image r.cls
    let weight := if r.origin = .lines then k.confirm else k.weight
    let joined := fun x : FaultRecord =>
      { x with
        score := min 255 (x.score + weight)
        origins := x.origins.insert r.origin
        reports := min 65535 (x.reports + 1)
        lastAt := s.time.uptime
        detail := if r.detail = none then x.detail else r.detail
        line := if r.origin = .lines ∧ x.line = none then r.line else x.line }
    let quiet := fun (x : FaultRecord) =>
      x.score < k.confirm ∧ (k.corroboration < 2 ∨ x.origins.count < k.corroboration) ∧
      s.map.health.get r.element ≠ .trial
    (¬Running s → handReport r s = s) ∧
    (∀ x, Running s → TableWellFormed s → recordOf s r.element r.cls = some x → x.state = .confirmed →
      handReport r s = { s with table.records := s.table.records.map fun y => if y = x then joined x else y }) ∧
    (∀ x, Running s → TableWellFormed s → r.startVote = false → recordOf s r.element r.cls = some x →
      x.state = .suspect → quiet (joined x) →
      handReport r s =
        { s with
          table.records := s.table.records.map fun y =>
            if y = x then { joined x with decay := some k.decay } else y }) ∧
    (∀ x : FaultRecord, Running s → r.startVote = false → recordOf s r.element r.cls = none →
      s.table.records.length < 32 →
      x = { element := r.element, cls := r.cls, state := .suspect, score := min 255 weight,
            origins := noOrigins.insert r.origin, reports := 1, firstAt := s.time.uptime, lastAt := s.time.uptime,
            confirmedAt := none, detail := r.detail, line := if r.origin = .lines then r.line else none,
            decay := some k.decay } →
      quiet x → handReport r s = { s with table.records := s.table.records ++ [x] })

/-- A report that meets a condition of R31 confirms its record: the pair's, scored by it, or a new one, which on a full
table takes the place of the lowest SUSPECT one. On an element that is not in TRIAL its health then is that of Table 1.6,
by a claim that hands out its effects; every port has the CONFIRMED notice, a retained class locks its entry, and a
ballot on the element is void, CONFIRMED, before the claim, which can void one for a port that it takes out. -/
def Obligations.ConfirmationsSetTheHealth : Prop :=
  ∀ (r : FaultReport) (s : State), Running s → TableWellFormed s → s.map.health.get r.element ≠ .trial →
    let e := r.element
    let k := classParams s.osc.image r.cls
    let meets := fun (score : Nat) (origins : OriginSet) =>
      k.confirm ≤ score ∨ (2 ≤ k.corroboration ∧ k.corroboration ≤ origins.count)
    ((∃ x, recordOf s e r.cls = some x ∧ x.state = .suspect ∧
        meets (raisedScore k r x.score) (x.origins.insert r.origin)) ∨
      (recordOf s e r.cls = none ∧ (s.table.records.length < 32 ∨ ∃ y ∈ s.table.records, y.state = .suspect) ∧
        meets (raisedScore k r 0) (noOrigins.insert r.origin))) →
    let t := handReport r s
    let before := s.map.health.get e
    let after := match before with
      | .lockedOut => Health.lockedOut
      | .isolated => if k.retained then .lockedOut else .isolated
      | _ => if k.retained then .lockedOut else match k.action with
        | .isolate => .isolated
        | .derate => .degraded
    let named := s.recovery.ballot.any (·.element == e)
    let void := if named then some (e, .voided .confirmed) else portOutNotice e before after s.recovery.ballot
    (∃ x, recordOf t e r.cls = some x ∧ x.state = .confirmed ∧ x.confirmedAt = some s.time.uptime ∧ x.decay = none) ∧
    t.table = { s.table with records := recordsConfirmedBy r s } ∧
    t.map = { s.map with health := s.map.health.set e after } ∧
    t.retained = { s.retained with entries := entriesLockedBy e r.cls s } ∧
    (∀ b, s.recovery.ballot = some b → b.element = e → t.recovery.ballot = none) ∧
    t.recovery =
      { ballot := if void = none then s.recovery.ballot else none
        primary := if t.unit.envelope = s.unit.envelope then s.recovery.primary
          else s.recovery.primary.map (evaluatedTrial s.recovery.nested t.unit.envelope)
        nested := s.recovery.nested } ∧
    (∀ p, (t.ports.get p).notices.confirmed = some (e, some r.cls)) ∧
    Noticed s t (e, some r.cls) void.isSome s.recovery.primary void ∧
    t = changeHealth e after (some r.cls)
      { s with
        table := t.table
        retained := t.retained
        recovery.ballot := if named then none else s.recovery.ballot
        ports := s.ports.map fun v =>
          { v with
            notices :=
              { v.notices with
                confirmed := some (e, some r.cls)
                ballot := if named then none else v.notices.ballot
                trial := if named then some (e, .voided .confirmed) else v.notices.trial } } }

/-- With the table full, a new record takes the place of the SUSPECT record of lowest score, the oldest of those; where
every record is CONFIRMED, the report of an element that is not in TRIAL sets overflow and leaves the records. -/
def Obligations.FullTablesEvictOrOverflow : Prop :=
  (∀ rs : List FaultRecord, (∃ x ∈ rs, x.state = .suspect) →
    ∃ before x after, rs = before ++ x :: after ∧ evictLowest rs = before ++ after ∧ x.state = .suspect ∧
      (∀ y ∈ before, y.state = .suspect → x.score < y.score) ∧
      (∀ y ∈ after, y.state = .suspect → x.score ≤ y.score)) ∧
  (∀ (r : FaultReport) (s : State), Running s → recordOf s r.element r.cls = none → s.table.records.length = 32 →
    (∀ x, (∃ y ∈ s.table.records, y.state = .suspect) →
      s.map.health.get r.element ≠ .trial → r.startVote = false →
      x = newRecord (classParams s.osc.image r.cls) r s.time.uptime →
      shouldConfirm (classParams s.osc.image r.cls) s.map.health x = false →
      handReport r s = { s with table.records := evictLowest s.table.records ++ [x] }) ∧
    ((∀ y ∈ s.table.records, y.state = .confirmed) → s.map.health.get r.element ≠ .trial →
      handReport r s = (if s.table.overflow then s else recompute { s with table.overflow := true })))

/-- A claim that changes an element's health hands out its effects: a controller that goes out loses its floor, its
supervision and all that its drive port owes or holds, with every ballot that asks its port, void for PORT_OUT; one that
returns is supervised, and its drive port owes an adoption; every port has the CONFIRMED notice; the target is computed
anew, and in RUN the envelope and the dwell follow by Table 5.1, or at once with a dwell time of 0 (a dwell that runs then
is cancelled: assumption 11), with what a change of the envelope brings. A claim that leaves the health as it was does
nothing. -/
def Obligations.ClaimsHandOutTheirEffects : Prop :=
  ∀ (e : Element) (h : Health) (c : Option FaultClass) (s : State),
    (s.map.health.get e = h → changeHealth e h c s = s) ∧
    (s.map.health.get e ≠ h →
      let t := changeHealth e h c s
      let goesOut := !isOut (s.map.health.get e) && isOut h
      let returns := isOut (s.map.health.get e) && !isOut h
      let void := portOutNotice e (s.map.health.get e) h s.recovery.ballot
      let target := t.unit.target.env
      let tight := s.unit.envelope.tighter target
      let dwell := (globalConfig s.osc.image).dwell
      let deadline := (globalConfig s.osc.image).adoption
      t.map = { s.map with health := s.map.health.set e h } ∧ t.table = s.table ∧ t.retained = s.retained ∧
      t.lines = s.lines ∧ t.osc = s.osc ∧ t.time = s.time ∧ t.pending = s.pending ∧
      (∀ p, (t.ports.get p).notices.confirmed = some (e, c)) ∧
      t.unit.target = targetOf s.osc.image t.map.health t.unit.floors s.table.overflow ∧
      (∀ p, goesOut = true → controllerOf p = e →
        t.unit.floors = s.unit.floors.set p none ∧ t.contact = s.contact.set p none ∧
        (∀ b, s.recovery.ballot = some b → t.recovery.ballot = if b.consent.get p then none else some b) ∧
        (∀ d, p = portOfDrive d → t.unit.adoption.get d =
          { lastAdopted := (s.unit.adoption.get d).lastAdopted, pending := false, deadline := none,
            latch := false })) ∧
      (∀ p, returns = true → controllerOf p = e →
        t.unit.floors = s.unit.floors ∧ t.recovery.ballot = s.recovery.ballot ∧
        t.contact = (if s.contact.get p = none ∧ checkInValue s.osc.image p ≠ 0 then
          s.contact.set p (some (checkInValue s.osc.image p)) else s.contact) ∧
        (∀ d, p = portOfDrive d → (t.unit.adoption.get d).pending = true ∧
          (t.unit.adoption.get d).deadline = some deadline)) ∧
      ((∀ p, controllerOf p ≠ e) ∨ (goesOut = false ∧ returns = false) →
        t.unit.floors = s.unit.floors ∧ t.contact = s.contact ∧ t.recovery.ballot = s.recovery.ballot) ∧
      (s.osc.part ≠ .run → t.unit.envelope = s.unit.envelope ∧ t.unit.dwell = s.unit.dwell) ∧
      (s.osc.part = .run → dwell = 0 → t.unit.envelope = target ∧ t.unit.dwell = none) ∧
      (s.osc.part = .run → dwell ≠ 0 → t.unit.envelope = tight ∧
        t.unit.dwell = if tight ≠ s.unit.envelope then (if tight = target then none else some dwell)
          else if s.unit.envelope = target then none else some (s.unit.dwell.getD dwell)) ∧
      t.unit.generation =
        (if t.unit.envelope = s.unit.envelope then s.unit.generation else s.unit.generation + 1) ∧
      (∀ d,
        let v := s.unit.adoption.get d
        let w := if controllerOf (portOfDrive d) ≠ e then v
          else if goesOut then { v with pending := false, deadline := none, latch := false }
          else if returns then { v with pending := true, deadline := some deadline } else v
        t.unit.adoption.get d = if t.unit.envelope = s.unit.envelope then w
          else
            { w with
              pending := w.pending || portRequired t d
              deadline := if portRequired t d then some (w.deadline.getD deadline) else w.deadline
              latch := w.latch && axleAllowed t.unit.envelope d }) ∧
      t.permit =
        { s.permit with
          outputs := if t.unit.envelope = s.unit.envelope ∧ ¬(goesOut = true ∧ (e = .frontCtl ∨ e = .rearCtl)) then
              s.permit.outputs
            else outputsOf s.osc.part t.unit.envelope t.unit.adoption.front.latch t.unit.adoption.rear.latch } ∧
      t.recovery =
        { ballot := if void = none then s.recovery.ballot else none
          primary := if t.unit.envelope = s.unit.envelope then s.recovery.primary
            else s.recovery.primary.map (evaluatedTrial s.recovery.nested t.unit.envelope)
          nested := s.recovery.nested } ∧
      Noticed s t (e, c) void.isSome s.recovery.primary void)

/-- A trial start puts the element in TRIAL with a record of its group's duration, removes the element's CONFIRMED records
and no other, and leaves every budget. Every port has the TRIAL notice STARTED, or, where the recompute of the start
resumes or suspends the trial, the notice of that. -/
def Obligations.TrialStartsAreTaken : Prop :=
  ∀ (slot : TrialSlot) (e : Element) (s : State),
    s.map.health.get e = .isolated ∨ s.map.health.get e = .degraded → slotFor s.recovery e = .ok slot →
    s.recovery.ballot = none →
    let t := startTrial slot e s
    let duration := trialDuration s.osc.image (elementGroup e)
    (∃ x, trialIn t.recovery slot = some x ∧ x.element = e ∧ x.startedAt = s.time.uptime ∧ x.duration = duration ∧
      x.remaining = duration ∧ (slot = .nested → x.state = .running) ∧
      (slot = .primary → (x.state = .suspended ↔ Suspends (elementGroup e) t.unit.envelope))) ∧
    (slot = .nested → t.recovery.primary = s.recovery.primary) ∧ (slot = .primary → t.recovery.nested = none) ∧
    t.map.health = s.map.health.set e .trial ∧ t.map.budget = s.map.budget ∧
    t.table.records = s.table.records.filter (fun x => !(x.element == e && x.state == .confirmed)) ∧
    t.table.overflow = s.table.overflow ∧ t.recovery.ballot = none ∧
    (∀ p, (t.ports.get p).notices.confirmed = some (e, none)) ∧ t.retained = s.retained ∧ t.osc = s.osc ∧
    (let placed : Trial :=
       { element := e
         state := if slot = .primary ∧ suspensionHolds (elementGroup e) s.unit.envelope = true then .suspended
           else .running
         startedAt := s.time.uptime
         duration := duration
         remaining := duration }
     (slot = .primary → t.recovery.primary = some (evaluatedTrial none t.unit.envelope placed)) ∧
     (slot = .nested → t.recovery.nested = some placed ∧
       ∀ p, (t.ports.get p).notices.trial = some (e, .started .nested)) ∧
     (slot = .primary → placed.state = .suspended → ¬Suspends (elementGroup e) t.unit.envelope →
       ∀ p, (t.ports.get p).notices.trial = some (e, .resumed)) ∧
     Noticed s t (e, none) false (if slot = .primary then some placed else s.recovery.primary)
       (some (e, .started slot)))

/-- Every report taken on an element in TRIAL fails its trial: the budget falls by 1, the health is that of Table 1.5, the
trial has left its slot, and a NESTED trial behind a failed PRIMARY one is promoted, with all it holds but its state, which
is evaluated. A recorded report leaves its record scored and CONFIRMED, and a retained class locks the entry. Every port
has the TRIAL notice FAILED, unless a ballot that asks a port which goes out, or the evaluation of PRIMARY, posts a later
one. -/
def Obligations.ReportsFailTrials : Prop :=
  ∀ (r : FaultReport) (s : State), s.osc.part = .run → TableWellFormed s → TrialsAgree s → HealthMatchesTable s →
    s.map.health.get r.element = .trial →
    let e := r.element
    let k := classParams s.osc.image r.cls
    let recorded := recordOf s e r.cls ≠ none ∨ s.table.records.length < 32 ∨ ∃ x ∈ s.table.records, x.state = .suspect
    let budget := s.map.budget.get e - 1
    let t := handReport r s
    t.map.budget = s.map.budget.set e budget ∧
    t.map.health = s.map.health.set e
      (if k.retained = true ∨ ¬recorded ∨ budget = 0 then .lockedOut else match k.action with
        | .isolate => .isolated
        | .derate => .degraded) ∧
    (∀ c, c ≠ e → (InFlight t.recovery c ↔ InFlight s.recovery c)) ∧ ¬InFlight t.recovery e ∧
    t.recovery.nested =
      (if s.recovery.primary.any (·.element == e) then none
      else if s.recovery.nested.any (·.element == e) then none else s.recovery.nested) ∧
    (recorded → ∃ x, recordOf t e r.cls = some x ∧ x.state = .confirmed) ∧
    (recorded → t.table = { s.table with records := recordsConfirmedBy r s } ∧
      t.retained = { s.retained with entries := entriesLockedBy e r.cls s }) ∧
    (¬recorded → t.table.records = s.table.records ∧ t.table.overflow = true ∧ t.retained = s.retained) ∧
    (∀ p, (t.ports.get p).notices.confirmed = some (e, some r.cls)) ∧
    (let promoted := if s.recovery.primary.any (·.element == e) then s.recovery.nested else s.recovery.primary
     let void := portOutNotice e .trial (t.map.health.get e) s.recovery.ballot
     t.recovery =
       { ballot := if void = none then s.recovery.ballot else none
         primary := promoted.map (evaluatedTrial none t.unit.envelope)
         nested := none } ∧
     (void = none → (∀ x, promoted = some x → (x.state = .suspended ↔ Suspends (elementGroup x.element) t.unit.envelope)) →
       ∀ p, (t.ports.get p).notices.trial = some (e, .failed)) ∧
     Noticed s t (e, some r.cls) void.isSome promoted (void.or (some (e, .failed))))

/-! ## Invariants of every step -/

/-- The envelope stays no less tight than the target in every field, and is SAFE_STOP outside RUN. -/
def Obligations.StepKeepsTheEnvelope : Prop :=
  ∀ s t : State, EnvelopeHolds s → step s = .next t → EnvelopeHolds t

/-- The outputs stay those of Table 6.1, and a permit latch is set only in RUN, for a port in service whose axle the
envelope allows. -/
def Obligations.StepKeepsTheOutputs : Prop :=
  ∀ s t : State, OutputsAgree s ∧ LatchesHold s → step s = .next t → OutputsAgree t ∧ LatchesHold t

/-- A port out of service stays without a floor request, without supervision, and outside every open ballot. -/
def Obligations.StepKeepsOutOfServicePortsBare : Prop :=
  ∀ s t : State, FloorsInService s ∧ SupervisedInService s ∧ BallotAsksInService s → step s = .next t →
    FloorsInService t ∧ SupervisedInService t ∧ BallotAsksInService t

/-- The fault table keeps at most 32 records, one for an element and class, each with the fields of its state. -/
def Obligations.StepKeepsTheTable : Prop :=
  ∀ s t : State, TableWellFormed s ∧ RecordsAgree s → step s = .next t → TableWellFormed t ∧ RecordsAgree t

/-- The health of every element stays in step with its CONFIRMED records, while the stored image is not corrupted. -/
def Obligations.StepKeepsHealthInStepWithTheTable : Prop :=
  ∀ s t : State, TableWellFormed s ∧ ConfigIsClean s ∧ HealthMatchesTable s →
    (∀ k b, s.pending.head? ≠ some (.configurationImageCorruption k b)) → step s = .next t →
    TableWellFormed t ∧ ConfigIsClean t ∧ HealthMatchesTable t

/-- Every SUSPECT record's score stays between its class's clear and confirm thresholds, and the class parameters pass
their checks, while the stored image is not corrupted. -/
def Obligations.StepKeepsSuspectScoresBetween : Prop :=
  ∀ s t : State, ImageLength s ∧ ConfigIsClean s ∧ ClassesAgree s ∧ SuspectScoresBetween s ∧ TableWellFormed s →
    (∀ k b, s.pending.head? ≠ some (.configurationImageCorruption k b)) → step s = .next t →
    ImageLength t ∧ ConfigIsClean t ∧ ClassesAgree t ∧ SuspectScoresBetween t ∧ TableWellFormed t

/-- The trial slots hold what R132 allows, an element is in TRIAL exactly while a slot holds its trial, no ballot and no
trial stands before RUN, and in RUN every locked element is LOCKED_OUT. -/
def Obligations.StepKeepsTheRecovery : Prop :=
  ∀ s t : State, NoRecoveryBeforeRun s ∧ TrialsAgree s ∧ RetainedLockedOut s → step s = .next t →
    NoRecoveryBeforeRun t ∧ TrialsAgree t ∧ RetainedLockedOut t

/-- The service arm stays within CONFIG and an asserted SVC, the cause record within FAILSAFE, the frozen digest outside
CONFIG; the image keeps its length, the mismatch counters their range, the ports their replies, and a part held in reset
its low outputs. -/
def Obligations.StepKeepsTheController : Prop :=
  ∀ s t : State,
    ArmOnlyInConfig s ∧ ControllerAgrees s ∧ ImageLength s ∧ HeldIsQuiet s ∧ CountersBounded s ∧ RepliesAgree s →
    step s = .next t →
    ArmOnlyInConfig t ∧ ControllerAgrees t ∧ ImageLength t ∧ HeldIsQuiet t ∧ CountersBounded t ∧ RepliesAgree t

/-- A drive port that is pending in RUN is required and has its deadline running, and the dwell runs in RUN exactly while
the envelope differs from the target. -/
def Obligations.StepKeepsTheDeadlines : Prop :=
  ∀ s t : State, NoRecoveryBeforeRun s ∧ PendingHasDeadline s ∧ NothingPendingBeforeRun s ∧ DwellAgrees s →
    step s = .next t → NoRecoveryBeforeRun t ∧ PendingHasDeadline t ∧ NothingPendingBeforeRun t ∧ DwellAgrees t

/-- From the step that sets overflow until the next reset, the target and the envelope are SAFE_STOP and no dwell runs;
in a state with overflow set, no command but a reset changes that. -/
def Obligations.StepKeepsOverflowStopped : Prop :=
  (∀ s t : State, EnvelopeHolds s ∧ DwellAgrees s ∧ OverflowStops s → step s = .next t → OverflowStops t) ∧
  (∀ (i : Instr) (s t : State), OverflowStops s → s.table.overflow = true → isReset i = false → exec i s = .next t →
    t.unit.envelope = safeStop ∧ t.unit.dwell = none)

/-! ## Rules of the whole machine -/

/-- But for a reset, a command that changes the envelope advances the generation by exactly one and leaves the ENVELOPE
notice with it on every port; and the generation does not change otherwise. -/
def Obligations.GenerationNamesTheEnvelope : Prop :=
  ∀ (i : Instr) (s t : State), exec i s = .next t → isReset i = false →
    (t.unit.envelope = s.unit.envelope ∧ t.unit.generation = s.unit.generation) ∨
    (t.unit.envelope ≠ s.unit.envelope ∧ t.unit.generation = s.unit.generation + 1 ∧
      ∀ p, (t.ports.get p).notices.envelope = some t.unit.generation)

/-- In FAILSAFE no command but a reset changes the table, the map, the lines, the supervision, the envelope unit, the
ballot and trials, the retained map, the outputs, or the part state with its timers and its cause; and none but a
corruption changes the image. -/
def Obligations.FailsafeFreezesThePart : Prop :=
  ∀ (i : Instr) (s t : State), s.osc.part = .failsafe → exec i s = .next t → isReset i = false →
    t.table = s.table ∧ t.map = s.map ∧ t.lines = s.lines ∧ t.contact = s.contact ∧ t.unit = s.unit ∧
    t.recovery = s.recovery ∧ t.retained = s.retained ∧ t.permit.outputs = s.permit.outputs ∧
    t.osc.part = .failsafe ∧ t.osc.frozen = s.osc.frozen ∧ t.osc.started = s.osc.started ∧
    t.osc.startWindow = s.osc.startWindow ∧ t.osc.integrity = s.osc.integrity ∧
    t.osc.configPort = s.osc.configPort ∧ t.osc.cause = s.osc.cause ∧
    (isCorruption i = false → t.osc.image = s.osc.image)

/-- Until the next reset no command raises a budget outside CONFIG, takes an element out of LOCKED_OUT, or removes a
CONFIRMED record but by the start of its element's trial. -/
def Obligations.NothingIsForgottenBeforeAReset : Prop :=
  ∀ (i : Instr) (s t : State), exec i s = .next t → isReset i = false →
    (s.osc.part ≠ .config → ∀ e, t.map.budget.get e ≤ s.map.budget.get e) ∧
    (∀ e, s.map.health.get e = .lockedOut → t.map.health.get e = .lockedOut) ∧
    (TrialsAgree s → ∀ x ∈ s.table.records, x.state = .confirmed →
      t.map.health.get x.element = .trial ∨
      ∃ y ∈ t.table.records, y.element = x.element ∧ y.cls = x.cls ∧ y.state = .confirmed)

/-- A drive permit rises only by an ADOPT from its own port, in RUN, of the current generation, with its axle allowed. -/
def Obligations.OnlyAdoptRaisesADrivePermit : Prop :=
  ∀ (i : Instr) (s t : State) (d : DrivePort), OutputsAgree s → LatchesHold s → exec i s = .next t →
    drivenLevel s.permit.outputs d = false → drivenLevel t.permit.outputs d = true →
    i = .adopt (portOfDrive d) s.unit.generation ∧ s.osc.part = .run ∧ axleAllowed s.unit.envelope d = true

/-- The image changes only by a WRITE_CONFIG from the configuration port in CONFIG, by a power-on reset or by a
corruption; the key-cycle counter only by a reset; and an entry of the retained map is unlocked only by a power-on reset
or by a SERVICE_CLEAR from the configuration port with the service arm set. -/
def Obligations.ConfigurationAndLockoutsAreGuarded : Prop :=
  ∀ (i : Instr) (s t : State), exec i s = .next t →
    (t.osc.image ≠ s.osc.image →
      (∃ k n entry, i = .writeConfig s.osc.configPort k n entry ∧ s.osc.part = .config) ∨
      (∃ c1 c0, i = .powerOnReset c1 c0) ∨ isCorruption i = true) ∧
    (isReset i = false → t.retained.keyCycles = s.retained.keyCycles) ∧
    (∀ e, (s.retained.entries.get e).locked = true → (t.retained.entries.get e).locked = false →
      (∃ c1 c0, i = .powerOnReset c1 c0) ∨ (∃ n, i = .serviceClear s.osc.configPort n ∧ s.osc.arm = true))

end
end

