-- ==== Sys2Proof/Laws/Bytes.lean ====
section
/-! SUPPORT. The bytes of payloads read back: multi-byte values, flag bytes, nibble fields, allowance bytes. -/

namespace Sys2Proof.Machine

/-- The n-th bit of a flag byte is the n-th flag. -/
theorem flagByte_getLsbD (fs : List Bool) (n : Nat) : (flagByte fs).getLsbD n = (decide (n < 8) && fs.getD n false) := by
  induction fs generalizing n with
  | nil => simp [flagByte]
  | cons f fs ih =>
    have hc : flagByte (f :: fs) = (flagByte fs <<< 1) ||| (if f then 1#8 else 0#8) := rfl
    rw [hc]
    cases n with
    | zero => cases f <;> simp
    | succ n =>
      have h1 : (if f then 1#8 else 0#8).getLsbD (n + 1) = false := by
        cases f
        · simp
        · simp
      simp only [BitVec.getLsbD_or, BitVec.getLsbD_shiftLeft, h1, ih, Bool.or_false, List.getD_cons_succ]
      by_cases hn : n + 1 < 8
      · have : n < 8 := by omega
        simp [hn, this]
      · simp [hn]

/-- The two bytes of a value, read low byte first, are the value. -/
theorem byte_append_halfBytes (h : Half) : highByte h ++ lowByte h = h := by
  apply BitVec.eq_of_getLsbD_eq
  intro i hi
  simp only [highByte, lowByte, BitVec.getLsbD_append, BitVec.getLsbD_setWidth, BitVec.getLsbD_ushiftRight]
  by_cases h8 : i < 8
  · simp [h8]
  · have : i - 8 < 8 := by omega
    simp [h8, this, show 8 + (i - 8) = i by omega]

theorem halfOf_eq_append (lo hi : Byte) : halfOf lo hi = hi ++ lo := by
  apply BitVec.eq_of_getLsbD_eq
  intro i hi'
  simp only [halfOf, BitVec.getLsbD_append, BitVec.getLsbD_or, BitVec.getLsbD_shiftLeft, BitVec.getLsbD_setWidth]
  by_cases h8 : i < 8
  · simp [h8, show i < 16 by omega]
  · simp only [h8, decide_false, Bool.not_false, Bool.and_true, hi', decide_true, Bool.true_and,
      show i - 8 < 16 by omega]
    rw [BitVec.getLsbD_of_ge lo i (by omega)]
    simp

/-- A value sent low byte first reads back as that value. -/
@[simp] theorem halfOf_bytes (h : Half) : halfOf (lowByte h) (highByte h) = h := by
  rw [halfOf_eq_append, byte_append_halfBytes]

@[simp] theorem lowByte_halfOf (lo hi : Byte) : lowByte (halfOf lo hi) = lo := by
  rw [halfOf_eq_append]
  apply BitVec.eq_of_getLsbD_eq
  intro i hi'
  simp only [lowByte, BitVec.getLsbD_append, BitVec.getLsbD_setWidth]
  simp [hi']

@[simp] theorem highByte_halfOf (lo hi : Byte) : highByte (halfOf lo hi) = hi := by
  rw [halfOf_eq_append]
  apply BitVec.eq_of_getLsbD_eq
  intro i hi'
  simp only [highByte, BitVec.getLsbD_append, BitVec.getLsbD_setWidth, BitVec.getLsbD_ushiftRight]
  simp [hi', show ¬8 + i < 8 by omega]

/-- The four bytes of a time, read lowest byte first, are the time. -/
theorem byte_append_uptimeBytes (u : Uptime) :
    (u >>> 24).setWidth 8 ++ (u >>> 16).setWidth 8 ++ (u >>> 8).setWidth 8 ++ u.setWidth 8 = u := by
  apply BitVec.eq_of_getLsbD_eq
  intro i hi
  simp only [BitVec.getLsbD_append, BitVec.getLsbD_setWidth, BitVec.getLsbD_ushiftRight]
  by_cases h8 : i < 8
  · simp [h8]
  · by_cases h16 : i < 16
    · simp [h8, show i - 8 < 8 by omega, show 8 + (i - 8) = i by omega]
    · by_cases h24 : i < 24
      · simp [h8, show ¬i - 8 < 8 by omega, show i - 8 - 8 < 8 by omega, show 16 + (i - 8 - 8) = i by omega]
      · simp [h8, show ¬i - 8 < 8 by omega, show ¬i - 8 - 8 < 8 by omega, show i - 8 - 8 - 8 < 8 by omega,
          show 24 + (i - 8 - 8 - 8) = i by omega]

/-- The low four-bit field of a byte of two. -/
theorem nibbles_low (a b : Nat) : (nibbles a b).extractLsb' 0 4 = BitVec.ofNat 4 a := by
  apply BitVec.eq_of_toNat_eq
  simp only [nibbles, natByte, BitVec.extractLsb'_toNat, BitVec.toNat_ofNat, Nat.shiftRight_zero]
  omega

/-- The high four-bit field of a byte of two. -/
theorem nibbles_high (a b : Nat) : (nibbles a b).extractLsb' 4 4 = BitVec.ofNat 4 b := by
  apply BitVec.eq_of_toNat_eq
  simp only [nibbles, natByte, BitVec.extractLsb'_toNat, BitVec.toNat_ofNat, Nat.shiftRight_eq_div_pow]
  omega

end Sys2Proof.Machine
end

