-- ==== Sys2Proof/Laws/Families.lean ====
section
/-! SUPPORT. The families of one value per port, drive port, element or line: reading a value after one has been set, and
two families that agree everywhere. -/

namespace Sys2Proof.Machine

@[simp] theorem PerPort.get_set_self {α : Type} (v : PerPort α) (p : Port) (a : α) : (v.set p a).get p = a := by
  cases p <;> rfl

theorem PerPort.get_set_ne {α : Type} (v : PerPort α) {p q : Port} (a : α) (h : q ≠ p) :
    (v.set p a).get q = v.get q := by
  cases p <;> cases q <;> first | rfl | exact absurd rfl h

theorem PerPort.get_set {α : Type} (v : PerPort α) (p q : Port) (a : α) :
    (v.set p a).get q = if q = p then a else v.get q := by
  cases p <;> cases q <;> rfl

@[simp] theorem PerPort.get_map {α β : Type} (f : α → β) (v : PerPort α) (p : Port) :
    (v.map f).get p = f (v.get p) := by
  cases p <;> rfl

@[simp] theorem PerPort.get_const {α : Type} (a : α) (p : Port) : (PerPort.const a).get p = a := by
  cases p <;> rfl

@[simp] theorem PerPort.set_set {α : Type} (v : PerPort α) (p : Port) (a b : α) : (v.set p a).set p b = v.set p b := by
  cases p <;> rfl

@[simp] theorem PerPort.set_get {α : Type} (v : PerPort α) (p : Port) : v.set p (v.get p) = v := by
  cases p <;> rfl

theorem PerPort.ext_get {α : Type} {v w : PerPort α} (h : ∀ p, v.get p = w.get p) : v = w := by
  have h1 := h .front
  have h2 := h .rear
  have h3 := h .pack
  have h4 := h .ride
  cases v
  cases w
  simp_all [PerPort.get]

@[simp] theorem PerDrive.get_set_self {α : Type} (v : PerDrive α) (d : DrivePort) (a : α) : (v.set d a).get d = a := by
  cases d <;> rfl

theorem PerDrive.get_set {α : Type} (v : PerDrive α) (d k : DrivePort) (a : α) :
    (v.set d a).get k = if k = d then a else v.get k := by
  cases d <;> cases k <;> rfl

@[simp] theorem PerDrive.set_set {α : Type} (v : PerDrive α) (d : DrivePort) (a b : α) :
    (v.set d a).set d b = v.set d b := by
  cases d <;> rfl

theorem PerDrive.ext_get {α : Type} {v w : PerDrive α} (h : ∀ d, v.get d = w.get d) : v = w := by
  have h1 := h .front
  have h2 := h .rear
  cases v
  cases w
  simp_all [PerDrive.get]

@[simp] theorem PerElement.get_set_self {α : Type} (v : PerElement α) (e : Element) (a : α) : (v.set e a).get e = a := by
  cases e <;> rfl

theorem PerElement.get_set {α : Type} (v : PerElement α) (e k : Element) (a : α) :
    (v.set e a).get k = if k = e then a else v.get k := by
  cases e <;> cases k <;> rfl

@[simp] theorem PerElement.get_of {α : Type} (f : Element → α) (e : Element) : (PerElement.of f).get e = f e := by
  cases e <;> rfl

@[simp] theorem PerElement.set_get {α : Type} (v : PerElement α) (e : Element) : v.set e (v.get e) = v := by
  cases e <;> rfl

@[simp] theorem PerLine.get_set_self {α : Type} (v : PerLine α) (l : FaultLine) (a : α) : (v.set l a).get l = a := by
  cases l <;> rfl

theorem PerLine.get_set {α : Type} (v : PerLine α) (l k : FaultLine) (a : α) :
    (v.set l a).get k = if k = l then a else v.get k := by
  cases l <;> cases k <;> rfl

@[simp] theorem PerLine.get_const {α : Type} (a : α) (l : FaultLine) : (PerLine.const a).get l = a := by
  cases l <;> rfl

/-- The controller element of a port controls that port. -/
@[simp] theorem portOf_controllerOf (p : Port) : portOf (controllerOf p) = some p := by cases p <;> rfl

/-- A drive port is the drive port of the port that it is. -/
@[simp] theorem driveOf_portOfDrive (d : DrivePort) : driveOf (portOfDrive d) = some d := by cases d <;> rfl

/-- An element that controls a port is that port's controller element. -/
theorem controllerOf_of_portOf {e : Element} {p : Port} (h : portOf e = some p) : controllerOf p = e := by
  cases e <;> cases p <;> simp_all [portOf, controllerOf]

/-- Two ports have different controller elements. -/
theorem controllerOf_injective {p q : Port} (h : controllerOf p = controllerOf q) : p = q := by
  cases p <;> cases q <;> simp_all [controllerOf]

end Sys2Proof.Machine
end

