-- ==== Sys2Proof/Laws/State.lean ====
section
/-! SUPPORT. One lemma per field for each of the updates of the state, true by rfl: what the update sets the field to, or
that it leaves it as it was. A part that an update does not touch has one lemma for the whole part; a part that it does
touch has one for each field of that part. -/

namespace Sys2Proof.Machine

/-! ### setPort -/

@[simp] theorem setPort_time (p : Port) (v : LinkPort) (s : State) : (setPort p v s).time = s.time := rfl
@[simp] theorem setPort_ports (p : Port) (v : LinkPort) (s : State) :
    (setPort p v s).ports = s.ports.set p v := rfl
@[simp] theorem setPort_table (p : Port) (v : LinkPort) (s : State) : (setPort p v s).table = s.table := rfl
@[simp] theorem setPort_map (p : Port) (v : LinkPort) (s : State) : (setPort p v s).map = s.map := rfl
@[simp] theorem setPort_lines (p : Port) (v : LinkPort) (s : State) : (setPort p v s).lines = s.lines := rfl
@[simp] theorem setPort_contact (p : Port) (v : LinkPort) (s : State) : (setPort p v s).contact = s.contact := rfl
@[simp] theorem setPort_unit (p : Port) (v : LinkPort) (s : State) : (setPort p v s).unit = s.unit := rfl
@[simp] theorem setPort_permit (p : Port) (v : LinkPort) (s : State) : (setPort p v s).permit = s.permit := rfl
@[simp] theorem setPort_recovery (p : Port) (v : LinkPort) (s : State) : (setPort p v s).recovery = s.recovery := rfl
@[simp] theorem setPort_retained (p : Port) (v : LinkPort) (s : State) : (setPort p v s).retained = s.retained := rfl
@[simp] theorem setPort_osc (p : Port) (v : LinkPort) (s : State) : (setPort p v s).osc = s.osc := rfl
@[simp] theorem setPort_pending (p : Port) (v : LinkPort) (s : State) : (setPort p v s).pending = s.pending := rfl

/-! ### mapNotices -/

@[simp] theorem mapNotices_time (f : NoticeSet → NoticeSet) (s : State) : (mapNotices f s).time = s.time := rfl
@[simp] theorem mapNotices_ports (f : NoticeSet → NoticeSet) (s : State) :
    (mapNotices f s).ports = s.ports.map fun v => { v with notices := f v.notices } := rfl
@[simp] theorem mapNotices_table (f : NoticeSet → NoticeSet) (s : State) : (mapNotices f s).table = s.table := rfl
@[simp] theorem mapNotices_map (f : NoticeSet → NoticeSet) (s : State) : (mapNotices f s).map = s.map := rfl
@[simp] theorem mapNotices_lines (f : NoticeSet → NoticeSet) (s : State) : (mapNotices f s).lines = s.lines := rfl
@[simp] theorem mapNotices_contact (f : NoticeSet → NoticeSet) (s : State) :
    (mapNotices f s).contact = s.contact := rfl
@[simp] theorem mapNotices_unit (f : NoticeSet → NoticeSet) (s : State) : (mapNotices f s).unit = s.unit := rfl
@[simp] theorem mapNotices_permit (f : NoticeSet → NoticeSet) (s : State) : (mapNotices f s).permit = s.permit := rfl
@[simp] theorem mapNotices_recovery (f : NoticeSet → NoticeSet) (s : State) :
    (mapNotices f s).recovery = s.recovery := rfl
@[simp] theorem mapNotices_retained (f : NoticeSet → NoticeSet) (s : State) :
    (mapNotices f s).retained = s.retained := rfl
@[simp] theorem mapNotices_osc (f : NoticeSet → NoticeSet) (s : State) : (mapNotices f s).osc = s.osc := rfl
@[simp] theorem mapNotices_pending (f : NoticeSet → NoticeSet) (s : State) :
    (mapNotices f s).pending = s.pending := rfl

/-! ### onNotices -/

@[simp] theorem onNotices_time (p : Port) (f : NoticeSet → NoticeSet) (s : State) :
    (onNotices p f s).time = s.time := rfl
@[simp] theorem onNotices_ports (p : Port) (f : NoticeSet → NoticeSet) (s : State) :
    (onNotices p f s).ports = s.ports.set p { s.ports.get p with notices := f (s.ports.get p).notices } := rfl
@[simp] theorem onNotices_table (p : Port) (f : NoticeSet → NoticeSet) (s : State) :
    (onNotices p f s).table = s.table := rfl
@[simp] theorem onNotices_map (p : Port) (f : NoticeSet → NoticeSet) (s : State) :
    (onNotices p f s).map = s.map := rfl
@[simp] theorem onNotices_lines (p : Port) (f : NoticeSet → NoticeSet) (s : State) :
    (onNotices p f s).lines = s.lines := rfl
@[simp] theorem onNotices_contact (p : Port) (f : NoticeSet → NoticeSet) (s : State) :
    (onNotices p f s).contact = s.contact := rfl
@[simp] theorem onNotices_unit (p : Port) (f : NoticeSet → NoticeSet) (s : State) :
    (onNotices p f s).unit = s.unit := rfl
@[simp] theorem onNotices_permit (p : Port) (f : NoticeSet → NoticeSet) (s : State) :
    (onNotices p f s).permit = s.permit := rfl
@[simp] theorem onNotices_recovery (p : Port) (f : NoticeSet → NoticeSet) (s : State) :
    (onNotices p f s).recovery = s.recovery := rfl
@[simp] theorem onNotices_retained (p : Port) (f : NoticeSet → NoticeSet) (s : State) :
    (onNotices p f s).retained = s.retained := rfl
@[simp] theorem onNotices_osc (p : Port) (f : NoticeSet → NoticeSet) (s : State) :
    (onNotices p f s).osc = s.osc := rfl
@[simp] theorem onNotices_pending (p : Port) (f : NoticeSet → NoticeSet) (s : State) :
    (onNotices p f s).pending = s.pending := rfl

/-! ### setHealth -/

@[simp] theorem setHealth_time (e : Element) (h : Health) (s : State) : (setHealth e h s).time = s.time := rfl
@[simp] theorem setHealth_ports (e : Element) (h : Health) (s : State) : (setHealth e h s).ports = s.ports := rfl
@[simp] theorem setHealth_table (e : Element) (h : Health) (s : State) : (setHealth e h s).table = s.table := rfl
@[simp] theorem setHealth_map_health (e : Element) (h : Health) (s : State) :
    (setHealth e h s).map.health = s.map.health.set e h := rfl
@[simp] theorem setHealth_map_budget (e : Element) (h : Health) (s : State) :
    (setHealth e h s).map.budget = s.map.budget := rfl
@[simp] theorem setHealth_lines (e : Element) (h : Health) (s : State) : (setHealth e h s).lines = s.lines := rfl
@[simp] theorem setHealth_contact (e : Element) (h : Health) (s : State) :
    (setHealth e h s).contact = s.contact := rfl
@[simp] theorem setHealth_unit (e : Element) (h : Health) (s : State) : (setHealth e h s).unit = s.unit := rfl
@[simp] theorem setHealth_permit (e : Element) (h : Health) (s : State) : (setHealth e h s).permit = s.permit := rfl
@[simp] theorem setHealth_recovery (e : Element) (h : Health) (s : State) :
    (setHealth e h s).recovery = s.recovery := rfl
@[simp] theorem setHealth_retained (e : Element) (h : Health) (s : State) :
    (setHealth e h s).retained = s.retained := rfl
@[simp] theorem setHealth_osc (e : Element) (h : Health) (s : State) : (setHealth e h s).osc = s.osc := rfl
@[simp] theorem setHealth_pending (e : Element) (h : Health) (s : State) :
    (setHealth e h s).pending = s.pending := rfl

/-! ### setBudget -/

@[simp] theorem setBudget_time (e : Element) (n : Nat) (s : State) : (setBudget e n s).time = s.time := rfl
@[simp] theorem setBudget_ports (e : Element) (n : Nat) (s : State) : (setBudget e n s).ports = s.ports := rfl
@[simp] theorem setBudget_table (e : Element) (n : Nat) (s : State) : (setBudget e n s).table = s.table := rfl
@[simp] theorem setBudget_map_health (e : Element) (n : Nat) (s : State) :
    (setBudget e n s).map.health = s.map.health := rfl
@[simp] theorem setBudget_map_budget (e : Element) (n : Nat) (s : State) :
    (setBudget e n s).map.budget = s.map.budget.set e n := rfl
@[simp] theorem setBudget_lines (e : Element) (n : Nat) (s : State) : (setBudget e n s).lines = s.lines := rfl
@[simp] theorem setBudget_contact (e : Element) (n : Nat) (s : State) : (setBudget e n s).contact = s.contact := rfl
@[simp] theorem setBudget_unit (e : Element) (n : Nat) (s : State) : (setBudget e n s).unit = s.unit := rfl
@[simp] theorem setBudget_permit (e : Element) (n : Nat) (s : State) : (setBudget e n s).permit = s.permit := rfl
@[simp] theorem setBudget_recovery (e : Element) (n : Nat) (s : State) :
    (setBudget e n s).recovery = s.recovery := rfl
@[simp] theorem setBudget_retained (e : Element) (n : Nat) (s : State) :
    (setBudget e n s).retained = s.retained := rfl
@[simp] theorem setBudget_osc (e : Element) (n : Nat) (s : State) : (setBudget e n s).osc = s.osc := rfl
@[simp] theorem setBudget_pending (e : Element) (n : Nat) (s : State) : (setBudget e n s).pending = s.pending := rfl

/-! ### setContact -/

@[simp] theorem setContact_time (p : Port) (t : Timer) (s : State) : (setContact p t s).time = s.time := rfl
@[simp] theorem setContact_ports (p : Port) (t : Timer) (s : State) : (setContact p t s).ports = s.ports := rfl
@[simp] theorem setContact_table (p : Port) (t : Timer) (s : State) : (setContact p t s).table = s.table := rfl
@[simp] theorem setContact_map (p : Port) (t : Timer) (s : State) : (setContact p t s).map = s.map := rfl
@[simp] theorem setContact_lines (p : Port) (t : Timer) (s : State) : (setContact p t s).lines = s.lines := rfl
@[simp] theorem setContact_contact (p : Port) (t : Timer) (s : State) :
    (setContact p t s).contact = s.contact.set p t := rfl
@[simp] theorem setContact_unit (p : Port) (t : Timer) (s : State) : (setContact p t s).unit = s.unit := rfl
@[simp] theorem setContact_permit (p : Port) (t : Timer) (s : State) : (setContact p t s).permit = s.permit := rfl
@[simp] theorem setContact_recovery (p : Port) (t : Timer) (s : State) :
    (setContact p t s).recovery = s.recovery := rfl
@[simp] theorem setContact_retained (p : Port) (t : Timer) (s : State) :
    (setContact p t s).retained = s.retained := rfl
@[simp] theorem setContact_osc (p : Port) (t : Timer) (s : State) : (setContact p t s).osc = s.osc := rfl
@[simp] theorem setContact_pending (p : Port) (t : Timer) (s : State) : (setContact p t s).pending = s.pending := rfl

/-! ### setFloorOf -/

@[simp] theorem setFloorOf_time (p : Port) (f : Option ProfileId) (s : State) :
    (setFloorOf p f s).time = s.time := rfl
@[simp] theorem setFloorOf_ports (p : Port) (f : Option ProfileId) (s : State) :
    (setFloorOf p f s).ports = s.ports := rfl
@[simp] theorem setFloorOf_table (p : Port) (f : Option ProfileId) (s : State) :
    (setFloorOf p f s).table = s.table := rfl
@[simp] theorem setFloorOf_map (p : Port) (f : Option ProfileId) (s : State) : (setFloorOf p f s).map = s.map := rfl
@[simp] theorem setFloorOf_lines (p : Port) (f : Option ProfileId) (s : State) :
    (setFloorOf p f s).lines = s.lines := rfl
@[simp] theorem setFloorOf_contact (p : Port) (f : Option ProfileId) (s : State) :
    (setFloorOf p f s).contact = s.contact := rfl
@[simp] theorem setFloorOf_unit_floors (p : Port) (f : Option ProfileId) (s : State) :
    (setFloorOf p f s).unit.floors = s.unit.floors.set p f := rfl
@[simp] theorem setFloorOf_unit_target (p : Port) (f : Option ProfileId) (s : State) :
    (setFloorOf p f s).unit.target = s.unit.target := rfl
@[simp] theorem setFloorOf_unit_envelope (p : Port) (f : Option ProfileId) (s : State) :
    (setFloorOf p f s).unit.envelope = s.unit.envelope := rfl
@[simp] theorem setFloorOf_unit_generation (p : Port) (f : Option ProfileId) (s : State) :
    (setFloorOf p f s).unit.generation = s.unit.generation := rfl
@[simp] theorem setFloorOf_unit_dwell (p : Port) (f : Option ProfileId) (s : State) :
    (setFloorOf p f s).unit.dwell = s.unit.dwell := rfl
@[simp] theorem setFloorOf_unit_adoption (p : Port) (f : Option ProfileId) (s : State) :
    (setFloorOf p f s).unit.adoption = s.unit.adoption := rfl
@[simp] theorem setFloorOf_permit (p : Port) (f : Option ProfileId) (s : State) :
    (setFloorOf p f s).permit = s.permit := rfl
@[simp] theorem setFloorOf_recovery (p : Port) (f : Option ProfileId) (s : State) :
    (setFloorOf p f s).recovery = s.recovery := rfl
@[simp] theorem setFloorOf_retained (p : Port) (f : Option ProfileId) (s : State) :
    (setFloorOf p f s).retained = s.retained := rfl
@[simp] theorem setFloorOf_osc (p : Port) (f : Option ProfileId) (s : State) : (setFloorOf p f s).osc = s.osc := rfl
@[simp] theorem setFloorOf_pending (p : Port) (f : Option ProfileId) (s : State) :
    (setFloorOf p f s).pending = s.pending := rfl

/-! ### setAdoption -/

@[simp] theorem setAdoption_time (d : DrivePort) (v : AdoptionRecord) (s : State) :
    (setAdoption d v s).time = s.time := rfl
@[simp] theorem setAdoption_ports (d : DrivePort) (v : AdoptionRecord) (s : State) :
    (setAdoption d v s).ports = s.ports := rfl
@[simp] theorem setAdoption_table (d : DrivePort) (v : AdoptionRecord) (s : State) :
    (setAdoption d v s).table = s.table := rfl
@[simp] theorem setAdoption_map (d : DrivePort) (v : AdoptionRecord) (s : State) :
    (setAdoption d v s).map = s.map := rfl
@[simp] theorem setAdoption_lines (d : DrivePort) (v : AdoptionRecord) (s : State) :
    (setAdoption d v s).lines = s.lines := rfl
@[simp] theorem setAdoption_contact (d : DrivePort) (v : AdoptionRecord) (s : State) :
    (setAdoption d v s).contact = s.contact := rfl
@[simp] theorem setAdoption_unit_floors (d : DrivePort) (v : AdoptionRecord) (s : State) :
    (setAdoption d v s).unit.floors = s.unit.floors := rfl
@[simp] theorem setAdoption_unit_target (d : DrivePort) (v : AdoptionRecord) (s : State) :
    (setAdoption d v s).unit.target = s.unit.target := rfl
@[simp] theorem setAdoption_unit_envelope (d : DrivePort) (v : AdoptionRecord) (s : State) :
    (setAdoption d v s).unit.envelope = s.unit.envelope := rfl
@[simp] theorem setAdoption_unit_generation (d : DrivePort) (v : AdoptionRecord) (s : State) :
    (setAdoption d v s).unit.generation = s.unit.generation := rfl
@[simp] theorem setAdoption_unit_dwell (d : DrivePort) (v : AdoptionRecord) (s : State) :
    (setAdoption d v s).unit.dwell = s.unit.dwell := rfl
@[simp] theorem setAdoption_unit_adoption (d : DrivePort) (v : AdoptionRecord) (s : State) :
    (setAdoption d v s).unit.adoption = s.unit.adoption.set d v := rfl
@[simp] theorem setAdoption_permit (d : DrivePort) (v : AdoptionRecord) (s : State) :
    (setAdoption d v s).permit = s.permit := rfl
@[simp] theorem setAdoption_recovery (d : DrivePort) (v : AdoptionRecord) (s : State) :
    (setAdoption d v s).recovery = s.recovery := rfl
@[simp] theorem setAdoption_retained (d : DrivePort) (v : AdoptionRecord) (s : State) :
    (setAdoption d v s).retained = s.retained := rfl
@[simp] theorem setAdoption_osc (d : DrivePort) (v : AdoptionRecord) (s : State) :
    (setAdoption d v s).osc = s.osc := rfl
@[simp] theorem setAdoption_pending (d : DrivePort) (v : AdoptionRecord) (s : State) :
    (setAdoption d v s).pending = s.pending := rfl

/-! ### setLine -/

@[simp] theorem setLine_time (l : FaultLine) (v : LineFilter) (s : State) : (setLine l v s).time = s.time := rfl
@[simp] theorem setLine_ports (l : FaultLine) (v : LineFilter) (s : State) : (setLine l v s).ports = s.ports := rfl
@[simp] theorem setLine_table (l : FaultLine) (v : LineFilter) (s : State) : (setLine l v s).table = s.table := rfl
@[simp] theorem setLine_map (l : FaultLine) (v : LineFilter) (s : State) : (setLine l v s).map = s.map := rfl
@[simp] theorem setLine_lines (l : FaultLine) (v : LineFilter) (s : State) :
    (setLine l v s).lines = s.lines.set l v := rfl
@[simp] theorem setLine_contact (l : FaultLine) (v : LineFilter) (s : State) :
    (setLine l v s).contact = s.contact := rfl
@[simp] theorem setLine_unit (l : FaultLine) (v : LineFilter) (s : State) : (setLine l v s).unit = s.unit := rfl
@[simp] theorem setLine_permit (l : FaultLine) (v : LineFilter) (s : State) : (setLine l v s).permit = s.permit := rfl
@[simp] theorem setLine_recovery (l : FaultLine) (v : LineFilter) (s : State) :
    (setLine l v s).recovery = s.recovery := rfl
@[simp] theorem setLine_retained (l : FaultLine) (v : LineFilter) (s : State) :
    (setLine l v s).retained = s.retained := rfl
@[simp] theorem setLine_osc (l : FaultLine) (v : LineFilter) (s : State) : (setLine l v s).osc = s.osc := rfl
@[simp] theorem setLine_pending (l : FaultLine) (v : LineFilter) (s : State) :
    (setLine l v s).pending = s.pending := rfl

/-! ### setEntry -/

@[simp] theorem setEntry_time (e : Element) (v : RetainedEntry) (s : State) : (setEntry e v s).time = s.time := rfl
@[simp] theorem setEntry_ports (e : Element) (v : RetainedEntry) (s : State) : (setEntry e v s).ports = s.ports := rfl
@[simp] theorem setEntry_table (e : Element) (v : RetainedEntry) (s : State) : (setEntry e v s).table = s.table := rfl
@[simp] theorem setEntry_map (e : Element) (v : RetainedEntry) (s : State) : (setEntry e v s).map = s.map := rfl
@[simp] theorem setEntry_lines (e : Element) (v : RetainedEntry) (s : State) : (setEntry e v s).lines = s.lines := rfl
@[simp] theorem setEntry_contact (e : Element) (v : RetainedEntry) (s : State) :
    (setEntry e v s).contact = s.contact := rfl
@[simp] theorem setEntry_unit (e : Element) (v : RetainedEntry) (s : State) : (setEntry e v s).unit = s.unit := rfl
@[simp] theorem setEntry_permit (e : Element) (v : RetainedEntry) (s : State) :
    (setEntry e v s).permit = s.permit := rfl
@[simp] theorem setEntry_recovery (e : Element) (v : RetainedEntry) (s : State) :
    (setEntry e v s).recovery = s.recovery := rfl
@[simp] theorem setEntry_retained_entries (e : Element) (v : RetainedEntry) (s : State) :
    (setEntry e v s).retained.entries = s.retained.entries.set e v := rfl
@[simp] theorem setEntry_retained_keyCycles (e : Element) (v : RetainedEntry) (s : State) :
    (setEntry e v s).retained.keyCycles = s.retained.keyCycles := rfl
@[simp] theorem setEntry_osc (e : Element) (v : RetainedEntry) (s : State) : (setEntry e v s).osc = s.osc := rfl
@[simp] theorem setEntry_pending (e : Element) (v : RetainedEntry) (s : State) :
    (setEntry e v s).pending = s.pending := rfl

/-! ### setMismatch -/

@[simp] theorem setMismatch_time (d : DrivePort) (n : Nat) (s : State) : (setMismatch d n s).time = s.time := rfl
@[simp] theorem setMismatch_ports (d : DrivePort) (n : Nat) (s : State) : (setMismatch d n s).ports = s.ports := rfl
@[simp] theorem setMismatch_table (d : DrivePort) (n : Nat) (s : State) : (setMismatch d n s).table = s.table := rfl
@[simp] theorem setMismatch_map (d : DrivePort) (n : Nat) (s : State) : (setMismatch d n s).map = s.map := rfl
@[simp] theorem setMismatch_lines (d : DrivePort) (n : Nat) (s : State) : (setMismatch d n s).lines = s.lines := rfl
@[simp] theorem setMismatch_contact (d : DrivePort) (n : Nat) (s : State) :
    (setMismatch d n s).contact = s.contact := rfl
@[simp] theorem setMismatch_unit (d : DrivePort) (n : Nat) (s : State) : (setMismatch d n s).unit = s.unit := rfl
@[simp] theorem setMismatch_permit_outputs (d : DrivePort) (n : Nat) (s : State) :
    (setMismatch d n s).permit.outputs = s.permit.outputs := rfl
@[simp] theorem setMismatch_permit_mismatch (d : DrivePort) (n : Nat) (s : State) :
    (setMismatch d n s).permit.mismatch = s.permit.mismatch.set d n := rfl
@[simp] theorem setMismatch_recovery (d : DrivePort) (n : Nat) (s : State) :
    (setMismatch d n s).recovery = s.recovery := rfl
@[simp] theorem setMismatch_retained (d : DrivePort) (n : Nat) (s : State) :
    (setMismatch d n s).retained = s.retained := rfl
@[simp] theorem setMismatch_osc (d : DrivePort) (n : Nat) (s : State) : (setMismatch d n s).osc = s.osc := rfl
@[simp] theorem setMismatch_pending (d : DrivePort) (n : Nat) (s : State) :
    (setMismatch d n s).pending = s.pending := rfl

/-! ### postEnvelope -/

@[simp] theorem postEnvelope_time (s : State) : (postEnvelope s).time = s.time := rfl
@[simp] theorem postEnvelope_ports (s : State) :
    (postEnvelope s).ports =
      s.ports.map fun v => { v with notices := { v.notices with envelope := some s.unit.generation } } := rfl
@[simp] theorem postEnvelope_table (s : State) : (postEnvelope s).table = s.table := rfl
@[simp] theorem postEnvelope_map (s : State) : (postEnvelope s).map = s.map := rfl
@[simp] theorem postEnvelope_lines (s : State) : (postEnvelope s).lines = s.lines := rfl
@[simp] theorem postEnvelope_contact (s : State) : (postEnvelope s).contact = s.contact := rfl
@[simp] theorem postEnvelope_unit (s : State) : (postEnvelope s).unit = s.unit := rfl
@[simp] theorem postEnvelope_permit (s : State) : (postEnvelope s).permit = s.permit := rfl
@[simp] theorem postEnvelope_recovery (s : State) : (postEnvelope s).recovery = s.recovery := rfl
@[simp] theorem postEnvelope_retained (s : State) : (postEnvelope s).retained = s.retained := rfl
@[simp] theorem postEnvelope_osc (s : State) : (postEnvelope s).osc = s.osc := rfl
@[simp] theorem postEnvelope_pending (s : State) : (postEnvelope s).pending = s.pending := rfl

/-! ### postConfirmed -/

@[simp] theorem postConfirmed_time (e : Element) (c : Option FaultClass) (s : State) :
    (postConfirmed e c s).time = s.time := rfl
@[simp] theorem postConfirmed_ports (e : Element) (c : Option FaultClass) (s : State) :
    (postConfirmed e c s).ports =
      s.ports.map fun v => { v with notices := { v.notices with confirmed := some (e, c) } } := rfl
@[simp] theorem postConfirmed_table (e : Element) (c : Option FaultClass) (s : State) :
    (postConfirmed e c s).table = s.table := rfl
@[simp] theorem postConfirmed_map (e : Element) (c : Option FaultClass) (s : State) :
    (postConfirmed e c s).map = s.map := rfl
@[simp] theorem postConfirmed_lines (e : Element) (c : Option FaultClass) (s : State) :
    (postConfirmed e c s).lines = s.lines := rfl
@[simp] theorem postConfirmed_contact (e : Element) (c : Option FaultClass) (s : State) :
    (postConfirmed e c s).contact = s.contact := rfl
@[simp] theorem postConfirmed_unit (e : Element) (c : Option FaultClass) (s : State) :
    (postConfirmed e c s).unit = s.unit := rfl
@[simp] theorem postConfirmed_permit (e : Element) (c : Option FaultClass) (s : State) :
    (postConfirmed e c s).permit = s.permit := rfl
@[simp] theorem postConfirmed_recovery (e : Element) (c : Option FaultClass) (s : State) :
    (postConfirmed e c s).recovery = s.recovery := rfl
@[simp] theorem postConfirmed_retained (e : Element) (c : Option FaultClass) (s : State) :
    (postConfirmed e c s).retained = s.retained := rfl
@[simp] theorem postConfirmed_osc (e : Element) (c : Option FaultClass) (s : State) :
    (postConfirmed e c s).osc = s.osc := rfl
@[simp] theorem postConfirmed_pending (e : Element) (c : Option FaultClass) (s : State) :
    (postConfirmed e c s).pending = s.pending := rfl

/-! ### postTrial -/

@[simp] theorem postTrial_time (e : Element) (o : TrialOutcome) (s : State) : (postTrial e o s).time = s.time := rfl
@[simp] theorem postTrial_ports (e : Element) (o : TrialOutcome) (s : State) :
    (postTrial e o s).ports =
      s.ports.map fun v => { v with notices := { v.notices with trial := some (e, o) } } := rfl
@[simp] theorem postTrial_table (e : Element) (o : TrialOutcome) (s : State) :
    (postTrial e o s).table = s.table := rfl
@[simp] theorem postTrial_map (e : Element) (o : TrialOutcome) (s : State) : (postTrial e o s).map = s.map := rfl
@[simp] theorem postTrial_lines (e : Element) (o : TrialOutcome) (s : State) :
    (postTrial e o s).lines = s.lines := rfl
@[simp] theorem postTrial_contact (e : Element) (o : TrialOutcome) (s : State) :
    (postTrial e o s).contact = s.contact := rfl
@[simp] theorem postTrial_unit (e : Element) (o : TrialOutcome) (s : State) : (postTrial e o s).unit = s.unit := rfl
@[simp] theorem postTrial_permit (e : Element) (o : TrialOutcome) (s : State) :
    (postTrial e o s).permit = s.permit := rfl
@[simp] theorem postTrial_recovery (e : Element) (o : TrialOutcome) (s : State) :
    (postTrial e o s).recovery = s.recovery := rfl
@[simp] theorem postTrial_retained (e : Element) (o : TrialOutcome) (s : State) :
    (postTrial e o s).retained = s.retained := rfl
@[simp] theorem postTrial_osc (e : Element) (o : TrialOutcome) (s : State) : (postTrial e o s).osc = s.osc := rfl
@[simp] theorem postTrial_pending (e : Element) (o : TrialOutcome) (s : State) :
    (postTrial e o s).pending = s.pending := rfl

/-! ### withdrawBallot -/

@[simp] theorem withdrawBallot_time (s : State) : (withdrawBallot s).time = s.time := rfl
@[simp] theorem withdrawBallot_ports (s : State) :
    (withdrawBallot s).ports = s.ports.map fun v => { v with notices := { v.notices with ballot := none } } := rfl
@[simp] theorem withdrawBallot_table (s : State) : (withdrawBallot s).table = s.table := rfl
@[simp] theorem withdrawBallot_map (s : State) : (withdrawBallot s).map = s.map := rfl
@[simp] theorem withdrawBallot_lines (s : State) : (withdrawBallot s).lines = s.lines := rfl
@[simp] theorem withdrawBallot_contact (s : State) : (withdrawBallot s).contact = s.contact := rfl
@[simp] theorem withdrawBallot_unit (s : State) : (withdrawBallot s).unit = s.unit := rfl
@[simp] theorem withdrawBallot_permit (s : State) : (withdrawBallot s).permit = s.permit := rfl
@[simp] theorem withdrawBallot_recovery (s : State) : (withdrawBallot s).recovery = s.recovery := rfl
@[simp] theorem withdrawBallot_retained (s : State) : (withdrawBallot s).retained = s.retained := rfl
@[simp] theorem withdrawBallot_osc (s : State) : (withdrawBallot s).osc = s.osc := rfl
@[simp] theorem withdrawBallot_pending (s : State) : (withdrawBallot s).pending = s.pending := rfl

/-! ### updateOutputs -/

@[simp] theorem updateOutputs_time (s : State) : (updateOutputs s).time = s.time := rfl
@[simp] theorem updateOutputs_ports (s : State) : (updateOutputs s).ports = s.ports := rfl
@[simp] theorem updateOutputs_table (s : State) : (updateOutputs s).table = s.table := rfl
@[simp] theorem updateOutputs_map (s : State) : (updateOutputs s).map = s.map := rfl
@[simp] theorem updateOutputs_lines (s : State) : (updateOutputs s).lines = s.lines := rfl
@[simp] theorem updateOutputs_contact (s : State) : (updateOutputs s).contact = s.contact := rfl
@[simp] theorem updateOutputs_unit (s : State) : (updateOutputs s).unit = s.unit := rfl
@[simp] theorem updateOutputs_permit_outputs (s : State) :
    (updateOutputs s).permit.outputs =
      outputsOf s.osc.part s.unit.envelope s.unit.adoption.front.latch s.unit.adoption.rear.latch := rfl
@[simp] theorem updateOutputs_permit_mismatch (s : State) :
    (updateOutputs s).permit.mismatch = s.permit.mismatch := rfl
@[simp] theorem updateOutputs_recovery (s : State) : (updateOutputs s).recovery = s.recovery := rfl
@[simp] theorem updateOutputs_retained (s : State) : (updateOutputs s).retained = s.retained := rfl
@[simp] theorem updateOutputs_osc (s : State) : (updateOutputs s).osc = s.osc := rfl
@[simp] theorem updateOutputs_pending (s : State) : (updateOutputs s).pending = s.pending := rfl

/-! ### setDwell -/

@[simp] theorem setDwell_time (t : Timer) (s : State) : (setDwell t s).time = s.time := rfl
@[simp] theorem setDwell_ports (t : Timer) (s : State) : (setDwell t s).ports = s.ports := rfl
@[simp] theorem setDwell_table (t : Timer) (s : State) : (setDwell t s).table = s.table := rfl
@[simp] theorem setDwell_map (t : Timer) (s : State) : (setDwell t s).map = s.map := rfl
@[simp] theorem setDwell_lines (t : Timer) (s : State) : (setDwell t s).lines = s.lines := rfl
@[simp] theorem setDwell_contact (t : Timer) (s : State) : (setDwell t s).contact = s.contact := rfl
@[simp] theorem setDwell_unit_floors (t : Timer) (s : State) : (setDwell t s).unit.floors = s.unit.floors := rfl
@[simp] theorem setDwell_unit_target (t : Timer) (s : State) : (setDwell t s).unit.target = s.unit.target := rfl
@[simp] theorem setDwell_unit_envelope (t : Timer) (s : State) : (setDwell t s).unit.envelope = s.unit.envelope := rfl
@[simp] theorem setDwell_unit_generation (t : Timer) (s : State) :
    (setDwell t s).unit.generation = s.unit.generation := rfl
@[simp] theorem setDwell_unit_dwell (t : Timer) (s : State) : (setDwell t s).unit.dwell = t := rfl
@[simp] theorem setDwell_unit_adoption (t : Timer) (s : State) : (setDwell t s).unit.adoption = s.unit.adoption := rfl
@[simp] theorem setDwell_permit (t : Timer) (s : State) : (setDwell t s).permit = s.permit := rfl
@[simp] theorem setDwell_recovery (t : Timer) (s : State) : (setDwell t s).recovery = s.recovery := rfl
@[simp] theorem setDwell_retained (t : Timer) (s : State) : (setDwell t s).retained = s.retained := rfl
@[simp] theorem setDwell_osc (t : Timer) (s : State) : (setDwell t s).osc = s.osc := rfl
@[simp] theorem setDwell_pending (t : Timer) (s : State) : (setDwell t s).pending = s.pending := rfl

/-! ### computeTarget -/

@[simp] theorem computeTarget_time (s : State) : (computeTarget s).time = s.time := rfl
@[simp] theorem computeTarget_ports (s : State) : (computeTarget s).ports = s.ports := rfl
@[simp] theorem computeTarget_table (s : State) : (computeTarget s).table = s.table := rfl
@[simp] theorem computeTarget_map (s : State) : (computeTarget s).map = s.map := rfl
@[simp] theorem computeTarget_lines (s : State) : (computeTarget s).lines = s.lines := rfl
@[simp] theorem computeTarget_contact (s : State) : (computeTarget s).contact = s.contact := rfl
@[simp] theorem computeTarget_unit_floors (s : State) : (computeTarget s).unit.floors = s.unit.floors := rfl
@[simp] theorem computeTarget_unit_target (s : State) :
    (computeTarget s).unit.target = targetOf s.osc.image s.map.health s.unit.floors s.table.overflow := rfl
@[simp] theorem computeTarget_unit_envelope (s : State) : (computeTarget s).unit.envelope = s.unit.envelope := rfl
@[simp] theorem computeTarget_unit_generation (s : State) :
    (computeTarget s).unit.generation = s.unit.generation := rfl
@[simp] theorem computeTarget_unit_dwell (s : State) : (computeTarget s).unit.dwell = s.unit.dwell := rfl
@[simp] theorem computeTarget_unit_adoption (s : State) : (computeTarget s).unit.adoption = s.unit.adoption := rfl
@[simp] theorem computeTarget_permit (s : State) : (computeTarget s).permit = s.permit := rfl
@[simp] theorem computeTarget_recovery (s : State) : (computeTarget s).recovery = s.recovery := rfl
@[simp] theorem computeTarget_retained (s : State) : (computeTarget s).retained = s.retained := rfl
@[simp] theorem computeTarget_osc (s : State) : (computeTarget s).osc = s.osc := rfl
@[simp] theorem computeTarget_pending (s : State) : (computeTarget s).pending = s.pending := rfl

/-! ### setBallot -/

@[simp] theorem setBallot_time (b : Option Ballot) (s : State) : (setBallot b s).time = s.time := rfl
@[simp] theorem setBallot_ports (b : Option Ballot) (s : State) : (setBallot b s).ports = s.ports := rfl
@[simp] theorem setBallot_table (b : Option Ballot) (s : State) : (setBallot b s).table = s.table := rfl
@[simp] theorem setBallot_map (b : Option Ballot) (s : State) : (setBallot b s).map = s.map := rfl
@[simp] theorem setBallot_lines (b : Option Ballot) (s : State) : (setBallot b s).lines = s.lines := rfl
@[simp] theorem setBallot_contact (b : Option Ballot) (s : State) : (setBallot b s).contact = s.contact := rfl
@[simp] theorem setBallot_unit (b : Option Ballot) (s : State) : (setBallot b s).unit = s.unit := rfl
@[simp] theorem setBallot_permit (b : Option Ballot) (s : State) : (setBallot b s).permit = s.permit := rfl
@[simp] theorem setBallot_recovery_ballot (b : Option Ballot) (s : State) : (setBallot b s).recovery.ballot = b := rfl
@[simp] theorem setBallot_recovery_primary (b : Option Ballot) (s : State) :
    (setBallot b s).recovery.primary = s.recovery.primary := rfl
@[simp] theorem setBallot_recovery_nested (b : Option Ballot) (s : State) :
    (setBallot b s).recovery.nested = s.recovery.nested := rfl
@[simp] theorem setBallot_retained (b : Option Ballot) (s : State) : (setBallot b s).retained = s.retained := rfl
@[simp] theorem setBallot_osc (b : Option Ballot) (s : State) : (setBallot b s).osc = s.osc := rfl
@[simp] theorem setBallot_pending (b : Option Ballot) (s : State) : (setBallot b s).pending = s.pending := rfl

/-! ### setArm -/

@[simp] theorem setArm_time (v : Bool) (s : State) : (setArm v s).time = s.time := rfl
@[simp] theorem setArm_ports (v : Bool) (s : State) : (setArm v s).ports = s.ports := rfl
@[simp] theorem setArm_table (v : Bool) (s : State) : (setArm v s).table = s.table := rfl
@[simp] theorem setArm_map (v : Bool) (s : State) : (setArm v s).map = s.map := rfl
@[simp] theorem setArm_lines (v : Bool) (s : State) : (setArm v s).lines = s.lines := rfl
@[simp] theorem setArm_contact (v : Bool) (s : State) : (setArm v s).contact = s.contact := rfl
@[simp] theorem setArm_unit (v : Bool) (s : State) : (setArm v s).unit = s.unit := rfl
@[simp] theorem setArm_permit (v : Bool) (s : State) : (setArm v s).permit = s.permit := rfl
@[simp] theorem setArm_recovery (v : Bool) (s : State) : (setArm v s).recovery = s.recovery := rfl
@[simp] theorem setArm_retained (v : Bool) (s : State) : (setArm v s).retained = s.retained := rfl
@[simp] theorem setArm_osc_part (v : Bool) (s : State) : (setArm v s).osc.part = s.osc.part := rfl
@[simp] theorem setArm_osc_image (v : Bool) (s : State) : (setArm v s).osc.image = s.osc.image := rfl
@[simp] theorem setArm_osc_frozen (v : Bool) (s : State) : (setArm v s).osc.frozen = s.osc.frozen := rfl
@[simp] theorem setArm_osc_started (v : Bool) (s : State) : (setArm v s).osc.started = s.osc.started := rfl
@[simp] theorem setArm_osc_startWindow (v : Bool) (s : State) :
    (setArm v s).osc.startWindow = s.osc.startWindow := rfl
@[simp] theorem setArm_osc_integrity (v : Bool) (s : State) : (setArm v s).osc.integrity = s.osc.integrity := rfl
@[simp] theorem setArm_osc_configPort (v : Bool) (s : State) : (setArm v s).osc.configPort = s.osc.configPort := rfl
@[simp] theorem setArm_osc_arm (v : Bool) (s : State) : (setArm v s).osc.arm = v := rfl
@[simp] theorem setArm_osc_svc (v : Bool) (s : State) : (setArm v s).osc.svc = s.osc.svc := rfl
@[simp] theorem setArm_osc_cause (v : Bool) (s : State) : (setArm v s).osc.cause = s.osc.cause := rfl
@[simp] theorem setArm_pending (v : Bool) (s : State) : (setArm v s).pending = s.pending := rfl

/-! ### storeFrame -/

@[simp] theorem storeFrame_time (p : Port) (code : Byte) (payload : List Byte) (s : State) :
    (storeFrame p code payload s).time = s.time := rfl
@[simp] theorem storeFrame_ports (p : Port) (code : Byte) (payload : List Byte) (s : State) :
    (storeFrame p code payload s).ports =
      s.ports.set p { s.ports.get p with buffer := requestFrame code payload } := rfl
@[simp] theorem storeFrame_table (p : Port) (code : Byte) (payload : List Byte) (s : State) :
    (storeFrame p code payload s).table = s.table := rfl
@[simp] theorem storeFrame_map (p : Port) (code : Byte) (payload : List Byte) (s : State) :
    (storeFrame p code payload s).map = s.map := rfl
@[simp] theorem storeFrame_lines (p : Port) (code : Byte) (payload : List Byte) (s : State) :
    (storeFrame p code payload s).lines = s.lines := rfl
@[simp] theorem storeFrame_contact (p : Port) (code : Byte) (payload : List Byte) (s : State) :
    (storeFrame p code payload s).contact = s.contact := rfl
@[simp] theorem storeFrame_unit (p : Port) (code : Byte) (payload : List Byte) (s : State) :
    (storeFrame p code payload s).unit = s.unit := rfl
@[simp] theorem storeFrame_permit (p : Port) (code : Byte) (payload : List Byte) (s : State) :
    (storeFrame p code payload s).permit = s.permit := rfl
@[simp] theorem storeFrame_recovery (p : Port) (code : Byte) (payload : List Byte) (s : State) :
    (storeFrame p code payload s).recovery = s.recovery := rfl
@[simp] theorem storeFrame_retained (p : Port) (code : Byte) (payload : List Byte) (s : State) :
    (storeFrame p code payload s).retained = s.retained := rfl
@[simp] theorem storeFrame_osc (p : Port) (code : Byte) (payload : List Byte) (s : State) :
    (storeFrame p code payload s).osc = s.osc := rfl
@[simp] theorem storeFrame_pending (p : Port) (code : Byte) (payload : List Byte) (s : State) :
    (storeFrame p code payload s).pending = s.pending := rfl

/-! ### removeConfirmed -/

@[simp] theorem removeConfirmed_time (e : Element) (s : State) : (removeConfirmed e s).time = s.time := rfl
@[simp] theorem removeConfirmed_ports (e : Element) (s : State) : (removeConfirmed e s).ports = s.ports := rfl
@[simp] theorem removeConfirmed_table_records (e : Element) (s : State) :
    (removeConfirmed e s).table.records =
      s.table.records.filter fun x => !(x.element == e && x.state == .confirmed) := rfl
@[simp] theorem removeConfirmed_table_overflow (e : Element) (s : State) :
    (removeConfirmed e s).table.overflow = s.table.overflow := rfl
@[simp] theorem removeConfirmed_map (e : Element) (s : State) : (removeConfirmed e s).map = s.map := rfl
@[simp] theorem removeConfirmed_lines (e : Element) (s : State) : (removeConfirmed e s).lines = s.lines := rfl
@[simp] theorem removeConfirmed_contact (e : Element) (s : State) : (removeConfirmed e s).contact = s.contact := rfl
@[simp] theorem removeConfirmed_unit (e : Element) (s : State) : (removeConfirmed e s).unit = s.unit := rfl
@[simp] theorem removeConfirmed_permit (e : Element) (s : State) : (removeConfirmed e s).permit = s.permit := rfl
@[simp] theorem removeConfirmed_recovery (e : Element) (s : State) :
    (removeConfirmed e s).recovery = s.recovery := rfl
@[simp] theorem removeConfirmed_retained (e : Element) (s : State) :
    (removeConfirmed e s).retained = s.retained := rfl
@[simp] theorem removeConfirmed_osc (e : Element) (s : State) : (removeConfirmed e s).osc = s.osc := rfl
@[simp] theorem removeConfirmed_pending (e : Element) (s : State) : (removeConfirmed e s).pending = s.pending := rfl

/-! ### onRecord -/

@[simp] theorem onRecord_time (e : Element) (c : FaultClass) (f : FaultRecord → FaultRecord) (s : State) :
    (onRecord e c f s).time = s.time := rfl
@[simp] theorem onRecord_ports (e : Element) (c : FaultClass) (f : FaultRecord → FaultRecord) (s : State) :
    (onRecord e c f s).ports = s.ports := rfl
@[simp] theorem onRecord_table_records (e : Element) (c : FaultClass) (f : FaultRecord → FaultRecord) (s : State) :
    (onRecord e c f s).table.records = s.table.records.map fun x => if ofPair e c x then f x else x := rfl
@[simp] theorem onRecord_table_overflow (e : Element) (c : FaultClass) (f : FaultRecord → FaultRecord) (s : State) :
    (onRecord e c f s).table.overflow = s.table.overflow := rfl
@[simp] theorem onRecord_map (e : Element) (c : FaultClass) (f : FaultRecord → FaultRecord) (s : State) :
    (onRecord e c f s).map = s.map := rfl
@[simp] theorem onRecord_lines (e : Element) (c : FaultClass) (f : FaultRecord → FaultRecord) (s : State) :
    (onRecord e c f s).lines = s.lines := rfl
@[simp] theorem onRecord_contact (e : Element) (c : FaultClass) (f : FaultRecord → FaultRecord) (s : State) :
    (onRecord e c f s).contact = s.contact := rfl
@[simp] theorem onRecord_unit (e : Element) (c : FaultClass) (f : FaultRecord → FaultRecord) (s : State) :
    (onRecord e c f s).unit = s.unit := rfl
@[simp] theorem onRecord_permit (e : Element) (c : FaultClass) (f : FaultRecord → FaultRecord) (s : State) :
    (onRecord e c f s).permit = s.permit := rfl
@[simp] theorem onRecord_recovery (e : Element) (c : FaultClass) (f : FaultRecord → FaultRecord) (s : State) :
    (onRecord e c f s).recovery = s.recovery := rfl
@[simp] theorem onRecord_retained (e : Element) (c : FaultClass) (f : FaultRecord → FaultRecord) (s : State) :
    (onRecord e c f s).retained = s.retained := rfl
@[simp] theorem onRecord_osc (e : Element) (c : FaultClass) (f : FaultRecord → FaultRecord) (s : State) :
    (onRecord e c f s).osc = s.osc := rfl
@[simp] theorem onRecord_pending (e : Element) (c : FaultClass) (f : FaultRecord → FaultRecord) (s : State) :
    (onRecord e c f s).pending = s.pending := rfl

/-! ### removeRecord -/

@[simp] theorem removeRecord_time (e : Element) (c : FaultClass) (s : State) :
    (removeRecord e c s).time = s.time := rfl
@[simp] theorem removeRecord_ports (e : Element) (c : FaultClass) (s : State) :
    (removeRecord e c s).ports = s.ports := rfl
@[simp] theorem removeRecord_table_records (e : Element) (c : FaultClass) (s : State) :
    (removeRecord e c s).table.records = s.table.records.eraseP (ofPair e c) := rfl
@[simp] theorem removeRecord_table_overflow (e : Element) (c : FaultClass) (s : State) :
    (removeRecord e c s).table.overflow = s.table.overflow := rfl
@[simp] theorem removeRecord_map (e : Element) (c : FaultClass) (s : State) : (removeRecord e c s).map = s.map := rfl
@[simp] theorem removeRecord_lines (e : Element) (c : FaultClass) (s : State) :
    (removeRecord e c s).lines = s.lines := rfl
@[simp] theorem removeRecord_contact (e : Element) (c : FaultClass) (s : State) :
    (removeRecord e c s).contact = s.contact := rfl
@[simp] theorem removeRecord_unit (e : Element) (c : FaultClass) (s : State) :
    (removeRecord e c s).unit = s.unit := rfl
@[simp] theorem removeRecord_permit (e : Element) (c : FaultClass) (s : State) :
    (removeRecord e c s).permit = s.permit := rfl
@[simp] theorem removeRecord_recovery (e : Element) (c : FaultClass) (s : State) :
    (removeRecord e c s).recovery = s.recovery := rfl
@[simp] theorem removeRecord_retained (e : Element) (c : FaultClass) (s : State) :
    (removeRecord e c s).retained = s.retained := rfl
@[simp] theorem removeRecord_osc (e : Element) (c : FaultClass) (s : State) : (removeRecord e c s).osc = s.osc := rfl
@[simp] theorem removeRecord_pending (e : Element) (c : FaultClass) (s : State) :
    (removeRecord e c s).pending = s.pending := rfl

/-! ### lockRetained -/

@[simp] theorem lockRetained_time (e : Element) (c : FaultClass) (s : State) :
    (lockRetained e c s).time = s.time := rfl
@[simp] theorem lockRetained_ports (e : Element) (c : FaultClass) (s : State) :
    (lockRetained e c s).ports = s.ports := rfl
@[simp] theorem lockRetained_table (e : Element) (c : FaultClass) (s : State) :
    (lockRetained e c s).table = s.table := rfl
@[simp] theorem lockRetained_map (e : Element) (c : FaultClass) (s : State) : (lockRetained e c s).map = s.map := rfl
@[simp] theorem lockRetained_lines (e : Element) (c : FaultClass) (s : State) :
    (lockRetained e c s).lines = s.lines := rfl
@[simp] theorem lockRetained_contact (e : Element) (c : FaultClass) (s : State) :
    (lockRetained e c s).contact = s.contact := rfl
@[simp] theorem lockRetained_unit (e : Element) (c : FaultClass) (s : State) :
    (lockRetained e c s).unit = s.unit := rfl
@[simp] theorem lockRetained_permit (e : Element) (c : FaultClass) (s : State) :
    (lockRetained e c s).permit = s.permit := rfl
@[simp] theorem lockRetained_recovery (e : Element) (c : FaultClass) (s : State) :
    (lockRetained e c s).recovery = s.recovery := rfl
@[simp] theorem lockRetained_retained_entries (e : Element) (c : FaultClass) (s : State) :
    (lockRetained e c s).retained.entries =
      s.retained.entries.set e (lockedEntry c s.retained.keyCycles (s.retained.entries.get e)) := rfl
@[simp] theorem lockRetained_retained_keyCycles (e : Element) (c : FaultClass) (s : State) :
    (lockRetained e c s).retained.keyCycles = s.retained.keyCycles := rfl
@[simp] theorem lockRetained_osc (e : Element) (c : FaultClass) (s : State) : (lockRetained e c s).osc = s.osc := rfl
@[simp] theorem lockRetained_pending (e : Element) (c : FaultClass) (s : State) :
    (lockRetained e c s).pending = s.pending := rfl

/-! ### unlockEntry -/

@[simp] theorem unlockEntry_time (e : Element) (s : State) : (unlockEntry e s).time = s.time := rfl
@[simp] theorem unlockEntry_ports (e : Element) (s : State) : (unlockEntry e s).ports = s.ports := rfl
@[simp] theorem unlockEntry_table (e : Element) (s : State) : (unlockEntry e s).table = s.table := rfl
@[simp] theorem unlockEntry_map (e : Element) (s : State) : (unlockEntry e s).map = s.map := rfl
@[simp] theorem unlockEntry_lines (e : Element) (s : State) : (unlockEntry e s).lines = s.lines := rfl
@[simp] theorem unlockEntry_contact (e : Element) (s : State) : (unlockEntry e s).contact = s.contact := rfl
@[simp] theorem unlockEntry_unit (e : Element) (s : State) : (unlockEntry e s).unit = s.unit := rfl
@[simp] theorem unlockEntry_permit (e : Element) (s : State) : (unlockEntry e s).permit = s.permit := rfl
@[simp] theorem unlockEntry_recovery (e : Element) (s : State) : (unlockEntry e s).recovery = s.recovery := rfl
@[simp] theorem unlockEntry_retained_entries (e : Element) (s : State) :
    (unlockEntry e s).retained.entries =
      s.retained.entries.set e { s.retained.entries.get e with locked := false } := rfl
@[simp] theorem unlockEntry_retained_keyCycles (e : Element) (s : State) :
    (unlockEntry e s).retained.keyCycles = s.retained.keyCycles := rfl
@[simp] theorem unlockEntry_osc (e : Element) (s : State) : (unlockEntry e s).osc = s.osc := rfl
@[simp] theorem unlockEntry_pending (e : Element) (s : State) : (unlockEntry e s).pending = s.pending := rfl

/-! ### enterFailsafe -/

@[simp] theorem enterFailsafe_time (cause : Cause) (s : State) : (enterFailsafe cause s).time = s.time := rfl
@[simp] theorem enterFailsafe_ports (cause : Cause) (s : State) : (enterFailsafe cause s).ports = s.ports := rfl
@[simp] theorem enterFailsafe_table (cause : Cause) (s : State) : (enterFailsafe cause s).table = s.table := rfl
@[simp] theorem enterFailsafe_map (cause : Cause) (s : State) : (enterFailsafe cause s).map = s.map := rfl
@[simp] theorem enterFailsafe_lines (cause : Cause) (s : State) : (enterFailsafe cause s).lines = s.lines := rfl
@[simp] theorem enterFailsafe_contact (cause : Cause) (s : State) : (enterFailsafe cause s).contact = s.contact := rfl
@[simp] theorem enterFailsafe_unit (cause : Cause) (s : State) : (enterFailsafe cause s).unit = s.unit := rfl
@[simp] theorem enterFailsafe_permit (cause : Cause) (s : State) : (enterFailsafe cause s).permit = s.permit := rfl
@[simp] theorem enterFailsafe_recovery (cause : Cause) (s : State) :
    (enterFailsafe cause s).recovery = s.recovery := rfl
@[simp] theorem enterFailsafe_retained (cause : Cause) (s : State) :
    (enterFailsafe cause s).retained = s.retained := rfl
@[simp] theorem enterFailsafe_osc_part (cause : Cause) (s : State) :
    (enterFailsafe cause s).osc.part = .failsafe := rfl
@[simp] theorem enterFailsafe_osc_image (cause : Cause) (s : State) :
    (enterFailsafe cause s).osc.image = s.osc.image := rfl
@[simp] theorem enterFailsafe_osc_frozen (cause : Cause) (s : State) :
    (enterFailsafe cause s).osc.frozen = s.osc.frozen := rfl
@[simp] theorem enterFailsafe_osc_started (cause : Cause) (s : State) :
    (enterFailsafe cause s).osc.started = s.osc.started := rfl
@[simp] theorem enterFailsafe_osc_startWindow (cause : Cause) (s : State) :
    (enterFailsafe cause s).osc.startWindow = s.osc.startWindow := rfl
@[simp] theorem enterFailsafe_osc_integrity (cause : Cause) (s : State) :
    (enterFailsafe cause s).osc.integrity = s.osc.integrity := rfl
@[simp] theorem enterFailsafe_osc_configPort (cause : Cause) (s : State) :
    (enterFailsafe cause s).osc.configPort = s.osc.configPort := rfl
@[simp] theorem enterFailsafe_osc_arm (cause : Cause) (s : State) : (enterFailsafe cause s).osc.arm = false := rfl
@[simp] theorem enterFailsafe_osc_svc (cause : Cause) (s : State) : (enterFailsafe cause s).osc.svc = s.osc.svc := rfl
@[simp] theorem enterFailsafe_osc_cause (cause : Cause) (s : State) :
    (enterFailsafe cause s).osc.cause =
      { cause := cause, enteredAt := some s.time.uptime, enteredFrom := some s.osc.part } := rfl
@[simp] theorem enterFailsafe_pending (cause : Cause) (s : State) : (enterFailsafe cause s).pending = s.pending := rfl

/-! ### clearLatches -/

@[simp] theorem clearLatches_time (s : State) : (clearLatches s).time = s.time := rfl
@[simp] theorem clearLatches_ports (s : State) : (clearLatches s).ports = s.ports := rfl
@[simp] theorem clearLatches_table (s : State) : (clearLatches s).table = s.table := rfl
@[simp] theorem clearLatches_map (s : State) : (clearLatches s).map = s.map := rfl
@[simp] theorem clearLatches_lines (s : State) : (clearLatches s).lines = s.lines := rfl
@[simp] theorem clearLatches_contact (s : State) : (clearLatches s).contact = s.contact := rfl
@[simp] theorem clearLatches_unit_floors (s : State) : (clearLatches s).unit.floors = s.unit.floors := rfl
@[simp] theorem clearLatches_unit_target (s : State) : (clearLatches s).unit.target = s.unit.target := rfl
@[simp] theorem clearLatches_unit_envelope (s : State) : (clearLatches s).unit.envelope = s.unit.envelope := rfl
@[simp] theorem clearLatches_unit_generation (s : State) : (clearLatches s).unit.generation = s.unit.generation := rfl
@[simp] theorem clearLatches_unit_dwell (s : State) : (clearLatches s).unit.dwell = s.unit.dwell := rfl
@[simp] theorem clearLatches_unit_adoption (s : State) :
    (clearLatches s).unit.adoption =
      { front := { s.unit.adoption.front with latch := false }, rear := { s.unit.adoption.rear with latch := false } } := rfl
@[simp] theorem clearLatches_permit (s : State) : (clearLatches s).permit = s.permit := rfl
@[simp] theorem clearLatches_recovery (s : State) : (clearLatches s).recovery = s.recovery := rfl
@[simp] theorem clearLatches_retained (s : State) : (clearLatches s).retained = s.retained := rfl
@[simp] theorem clearLatches_osc (s : State) : (clearLatches s).osc = s.osc := rfl
@[simp] theorem clearLatches_pending (s : State) : (clearLatches s).pending = s.pending := rfl

/-! ### enterRun -/

@[simp] theorem enterRun_time (s : State) : (enterRun s).time = s.time := rfl
@[simp] theorem enterRun_ports (s : State) : (enterRun s).ports = s.ports := rfl
@[simp] theorem enterRun_table (s : State) : (enterRun s).table = s.table := rfl
@[simp] theorem enterRun_map (s : State) : (enterRun s).map = s.map := rfl
@[simp] theorem enterRun_lines (s : State) : (enterRun s).lines = s.lines := rfl
@[simp] theorem enterRun_contact (s : State) : (enterRun s).contact = s.contact := rfl
@[simp] theorem enterRun_unit (s : State) : (enterRun s).unit = s.unit := rfl
@[simp] theorem enterRun_permit (s : State) : (enterRun s).permit = s.permit := rfl
@[simp] theorem enterRun_recovery (s : State) : (enterRun s).recovery = s.recovery := rfl
@[simp] theorem enterRun_retained (s : State) : (enterRun s).retained = s.retained := rfl
@[simp] theorem enterRun_osc_part (s : State) : (enterRun s).osc.part = .run := rfl
@[simp] theorem enterRun_osc_image (s : State) : (enterRun s).osc.image = s.osc.image := rfl
@[simp] theorem enterRun_osc_frozen (s : State) : (enterRun s).osc.frozen = s.osc.frozen := rfl
@[simp] theorem enterRun_osc_started (s : State) : (enterRun s).osc.started = s.osc.started := rfl
@[simp] theorem enterRun_osc_startWindow (s : State) : (enterRun s).osc.startWindow = none := rfl
@[simp] theorem enterRun_osc_integrity (s : State) : (enterRun s).osc.integrity = s.osc.integrity := rfl
@[simp] theorem enterRun_osc_configPort (s : State) : (enterRun s).osc.configPort = s.osc.configPort := rfl
@[simp] theorem enterRun_osc_arm (s : State) : (enterRun s).osc.arm = s.osc.arm := rfl
@[simp] theorem enterRun_osc_svc (s : State) : (enterRun s).osc.svc = s.osc.svc := rfl
@[simp] theorem enterRun_osc_cause (s : State) : (enterRun s).osc.cause = s.osc.cause := rfl
@[simp] theorem enterRun_pending (s : State) : (enterRun s).pending = s.pending := rfl

/-! ### enterStarting -/

@[simp] theorem enterStarting_time (p : Port) (s : State) : (enterStarting p s).time = s.time := rfl
@[simp] theorem enterStarting_ports (p : Port) (s : State) : (enterStarting p s).ports = s.ports := rfl
@[simp] theorem enterStarting_table (p : Port) (s : State) : (enterStarting p s).table = s.table := rfl
@[simp] theorem enterStarting_map (p : Port) (s : State) : (enterStarting p s).map = s.map := rfl
@[simp] theorem enterStarting_lines (p : Port) (s : State) : (enterStarting p s).lines = s.lines := rfl
@[simp] theorem enterStarting_contact (p : Port) (s : State) : (enterStarting p s).contact = s.contact := rfl
@[simp] theorem enterStarting_unit (p : Port) (s : State) : (enterStarting p s).unit = s.unit := rfl
@[simp] theorem enterStarting_permit (p : Port) (s : State) : (enterStarting p s).permit = s.permit := rfl
@[simp] theorem enterStarting_recovery (p : Port) (s : State) : (enterStarting p s).recovery = s.recovery := rfl
@[simp] theorem enterStarting_retained (p : Port) (s : State) : (enterStarting p s).retained = s.retained := rfl
@[simp] theorem enterStarting_osc_part (p : Port) (s : State) : (enterStarting p s).osc.part = .starting := rfl
@[simp] theorem enterStarting_osc_image (p : Port) (s : State) : (enterStarting p s).osc.image = s.osc.image := rfl
@[simp] theorem enterStarting_osc_frozen (p : Port) (s : State) :
    (enterStarting p s).osc.frozen = some (digest s.osc.image) := rfl
@[simp] theorem enterStarting_osc_started (p : Port) (s : State) :
    (enterStarting p s).osc.started = s.osc.started.set p true := rfl
@[simp] theorem enterStarting_osc_startWindow (p : Port) (s : State) :
    (enterStarting p s).osc.startWindow = some (globalConfig s.osc.image).startWindow := rfl
@[simp] theorem enterStarting_osc_integrity (p : Port) (s : State) :
    (enterStarting p s).osc.integrity = some integrityPeriod := rfl
@[simp] theorem enterStarting_osc_configPort (p : Port) (s : State) :
    (enterStarting p s).osc.configPort = s.osc.configPort := rfl
@[simp] theorem enterStarting_osc_arm (p : Port) (s : State) : (enterStarting p s).osc.arm = false := rfl
@[simp] theorem enterStarting_osc_svc (p : Port) (s : State) : (enterStarting p s).osc.svc = s.osc.svc := rfl
@[simp] theorem enterStarting_osc_cause (p : Port) (s : State) : (enterStarting p s).osc.cause = s.osc.cause := rfl
@[simp] theorem enterStarting_pending (p : Port) (s : State) : (enterStarting p s).pending = s.pending := rfl

/-! ### joinStarted -/

@[simp] theorem joinStarted_time (p : Port) (s : State) : (joinStarted p s).time = s.time := rfl
@[simp] theorem joinStarted_ports (p : Port) (s : State) : (joinStarted p s).ports = s.ports := rfl
@[simp] theorem joinStarted_table (p : Port) (s : State) : (joinStarted p s).table = s.table := rfl
@[simp] theorem joinStarted_map (p : Port) (s : State) : (joinStarted p s).map = s.map := rfl
@[simp] theorem joinStarted_lines (p : Port) (s : State) : (joinStarted p s).lines = s.lines := rfl
@[simp] theorem joinStarted_contact (p : Port) (s : State) : (joinStarted p s).contact = s.contact := rfl
@[simp] theorem joinStarted_unit (p : Port) (s : State) : (joinStarted p s).unit = s.unit := rfl
@[simp] theorem joinStarted_permit (p : Port) (s : State) : (joinStarted p s).permit = s.permit := rfl
@[simp] theorem joinStarted_recovery (p : Port) (s : State) : (joinStarted p s).recovery = s.recovery := rfl
@[simp] theorem joinStarted_retained (p : Port) (s : State) : (joinStarted p s).retained = s.retained := rfl
@[simp] theorem joinStarted_osc_part (p : Port) (s : State) : (joinStarted p s).osc.part = s.osc.part := rfl
@[simp] theorem joinStarted_osc_image (p : Port) (s : State) : (joinStarted p s).osc.image = s.osc.image := rfl
@[simp] theorem joinStarted_osc_frozen (p : Port) (s : State) : (joinStarted p s).osc.frozen = s.osc.frozen := rfl
@[simp] theorem joinStarted_osc_started (p : Port) (s : State) :
    (joinStarted p s).osc.started = s.osc.started.set p true := rfl
@[simp] theorem joinStarted_osc_startWindow (p : Port) (s : State) :
    (joinStarted p s).osc.startWindow = s.osc.startWindow := rfl
@[simp] theorem joinStarted_osc_integrity (p : Port) (s : State) :
    (joinStarted p s).osc.integrity = s.osc.integrity := rfl
@[simp] theorem joinStarted_osc_configPort (p : Port) (s : State) :
    (joinStarted p s).osc.configPort = s.osc.configPort := rfl
@[simp] theorem joinStarted_osc_arm (p : Port) (s : State) : (joinStarted p s).osc.arm = s.osc.arm := rfl
@[simp] theorem joinStarted_osc_svc (p : Port) (s : State) : (joinStarted p s).osc.svc = s.osc.svc := rfl
@[simp] theorem joinStarted_osc_cause (p : Port) (s : State) : (joinStarted p s).osc.cause = s.osc.cause := rfl
@[simp] theorem joinStarted_pending (p : Port) (s : State) : (joinStarted p s).pending = s.pending := rfl

/-! ### tickUptime -/

@[simp] theorem tickUptime_time_uptime (s : State) : (tickUptime s).time.uptime = s.time.uptime + 1 := rfl
@[simp] theorem tickUptime_time_held (s : State) : (tickUptime s).time.held = s.time.held := rfl
@[simp] theorem tickUptime_ports (s : State) : (tickUptime s).ports = s.ports := rfl
@[simp] theorem tickUptime_table (s : State) : (tickUptime s).table = s.table := rfl
@[simp] theorem tickUptime_map (s : State) : (tickUptime s).map = s.map := rfl
@[simp] theorem tickUptime_lines (s : State) : (tickUptime s).lines = s.lines := rfl
@[simp] theorem tickUptime_contact (s : State) : (tickUptime s).contact = s.contact := rfl
@[simp] theorem tickUptime_unit (s : State) : (tickUptime s).unit = s.unit := rfl
@[simp] theorem tickUptime_permit (s : State) : (tickUptime s).permit = s.permit := rfl
@[simp] theorem tickUptime_recovery (s : State) : (tickUptime s).recovery = s.recovery := rfl
@[simp] theorem tickUptime_retained (s : State) : (tickUptime s).retained = s.retained := rfl
@[simp] theorem tickUptime_osc (s : State) : (tickUptime s).osc = s.osc := rfl
@[simp] theorem tickUptime_pending (s : State) : (tickUptime s).pending = s.pending := rfl

/-! ### endReset -/

@[simp] theorem endReset_time_uptime (s : State) : (endReset s).time.uptime = 0#32 := rfl
@[simp] theorem endReset_time_held (s : State) : (endReset s).time.held = false := rfl
@[simp] theorem endReset_ports (s : State) : (endReset s).ports = s.ports := rfl
@[simp] theorem endReset_table (s : State) : (endReset s).table = s.table := rfl
@[simp] theorem endReset_map (s : State) : (endReset s).map = s.map := rfl
@[simp] theorem endReset_lines (s : State) : (endReset s).lines = s.lines := rfl
@[simp] theorem endReset_contact (s : State) : (endReset s).contact = s.contact := rfl
@[simp] theorem endReset_unit (s : State) : (endReset s).unit = s.unit := rfl
@[simp] theorem endReset_permit (s : State) : (endReset s).permit = s.permit := rfl
@[simp] theorem endReset_recovery (s : State) : (endReset s).recovery = s.recovery := rfl
@[simp] theorem endReset_retained (s : State) : (endReset s).retained = s.retained := rfl
@[simp] theorem endReset_osc (s : State) : (endReset s).osc = s.osc := rfl
@[simp] theorem endReset_pending (s : State) : (endReset s).pending = s.pending := rfl

/-! ### framed -/

@[simp] theorem framed_time (p : Port) (code : Byte) (payload : List Byte) (s : State) :
    (framed p code payload s).time = s.time := rfl
@[simp] theorem framed_ports (p : Port) (code : Byte) (payload : List Byte) (s : State) :
    (framed p code payload s).ports = s.ports.set p { s.ports.get p with buffer := requestFrame code payload } := rfl
@[simp] theorem framed_table (p : Port) (code : Byte) (payload : List Byte) (s : State) :
    (framed p code payload s).table = s.table := rfl
@[simp] theorem framed_map (p : Port) (code : Byte) (payload : List Byte) (s : State) :
    (framed p code payload s).map = s.map := rfl
@[simp] theorem framed_lines (p : Port) (code : Byte) (payload : List Byte) (s : State) :
    (framed p code payload s).lines = s.lines := rfl
@[simp] theorem framed_contact (p : Port) (code : Byte) (payload : List Byte) (s : State) :
    (framed p code payload s).contact = s.contact := rfl
@[simp] theorem framed_unit (p : Port) (code : Byte) (payload : List Byte) (s : State) :
    (framed p code payload s).unit = s.unit := rfl
@[simp] theorem framed_permit (p : Port) (code : Byte) (payload : List Byte) (s : State) :
    (framed p code payload s).permit = s.permit := rfl
@[simp] theorem framed_recovery (p : Port) (code : Byte) (payload : List Byte) (s : State) :
    (framed p code payload s).recovery = s.recovery := rfl
@[simp] theorem framed_retained (p : Port) (code : Byte) (payload : List Byte) (s : State) :
    (framed p code payload s).retained = s.retained := rfl
@[simp] theorem framed_osc (p : Port) (code : Byte) (payload : List Byte) (s : State) :
    (framed p code payload s).osc = s.osc := rfl
@[simp] theorem framed_pending (p : Port) (code : Byte) (payload : List Byte) (s : State) :
    (framed p code payload s).pending = s.pending := rfl

/-! ### received -/

@[simp] theorem received_time (p : Port) (code : Byte) (payload : List Byte) (s : State) :
    (received p code payload s).time = s.time := rfl
@[simp] theorem received_ports (p : Port) (code : Byte) (payload : List Byte) (s : State) :
    (received p code payload s).ports =
      s.ports.set p { s.ports.get p with buffer := requestFrame code payload } := rfl
@[simp] theorem received_table (p : Port) (code : Byte) (payload : List Byte) (s : State) :
    (received p code payload s).table = s.table := rfl
@[simp] theorem received_map (p : Port) (code : Byte) (payload : List Byte) (s : State) :
    (received p code payload s).map = s.map := rfl
@[simp] theorem received_lines (p : Port) (code : Byte) (payload : List Byte) (s : State) :
    (received p code payload s).lines = s.lines := rfl
@[simp] theorem received_contact (p : Port) (code : Byte) (payload : List Byte) (s : State) :
    (received p code payload s).contact = s.contact := rfl
@[simp] theorem received_unit (p : Port) (code : Byte) (payload : List Byte) (s : State) :
    (received p code payload s).unit = s.unit := rfl
@[simp] theorem received_permit (p : Port) (code : Byte) (payload : List Byte) (s : State) :
    (received p code payload s).permit = s.permit := rfl
@[simp] theorem received_recovery (p : Port) (code : Byte) (payload : List Byte) (s : State) :
    (received p code payload s).recovery = s.recovery := rfl
@[simp] theorem received_retained (p : Port) (code : Byte) (payload : List Byte) (s : State) :
    (received p code payload s).retained = s.retained := rfl
@[simp] theorem received_osc_part (p : Port) (code : Byte) (payload : List Byte) (s : State) :
    (received p code payload s).osc.part = s.osc.part := rfl
@[simp] theorem received_osc_image (p : Port) (code : Byte) (payload : List Byte) (s : State) :
    (received p code payload s).osc.image = s.osc.image := rfl
@[simp] theorem received_osc_frozen (p : Port) (code : Byte) (payload : List Byte) (s : State) :
    (received p code payload s).osc.frozen = s.osc.frozen := rfl
@[simp] theorem received_osc_started (p : Port) (code : Byte) (payload : List Byte) (s : State) :
    (received p code payload s).osc.started = s.osc.started := rfl
@[simp] theorem received_osc_startWindow (p : Port) (code : Byte) (payload : List Byte) (s : State) :
    (received p code payload s).osc.startWindow = s.osc.startWindow := rfl
@[simp] theorem received_osc_integrity (p : Port) (code : Byte) (payload : List Byte) (s : State) :
    (received p code payload s).osc.integrity = s.osc.integrity := rfl
@[simp] theorem received_osc_configPort (p : Port) (code : Byte) (payload : List Byte) (s : State) :
    (received p code payload s).osc.configPort = s.osc.configPort := rfl
@[simp] theorem received_osc_arm (p : Port) (code : Byte) (payload : List Byte) (s : State) :
    (received p code payload s).osc.arm = (s.osc.arm && decide (p ≠ s.osc.configPort)) := rfl
@[simp] theorem received_osc_svc (p : Port) (code : Byte) (payload : List Byte) (s : State) :
    (received p code payload s).osc.svc = s.osc.svc := rfl
@[simp] theorem received_osc_cause (p : Port) (code : Byte) (payload : List Byte) (s : State) :
    (received p code payload s).osc.cause = s.osc.cause := rfl
@[simp] theorem received_pending (p : Port) (code : Byte) (payload : List Byte) (s : State) :
    (received p code payload s).pending = s.pending := rfl

/-! ### closed -/

@[simp] theorem closed_time (e : Element) (o : TrialOutcome) (s : State) : (closed e o s).time = s.time := rfl
@[simp] theorem closed_ports (e : Element) (o : TrialOutcome) (s : State) :
    (closed e o s).ports =
      s.ports.map fun v => { v with notices := { v.notices with ballot := none, trial := some (e, o) } } := rfl
@[simp] theorem closed_table (e : Element) (o : TrialOutcome) (s : State) : (closed e o s).table = s.table := rfl
@[simp] theorem closed_map (e : Element) (o : TrialOutcome) (s : State) : (closed e o s).map = s.map := rfl
@[simp] theorem closed_lines (e : Element) (o : TrialOutcome) (s : State) : (closed e o s).lines = s.lines := rfl
@[simp] theorem closed_contact (e : Element) (o : TrialOutcome) (s : State) :
    (closed e o s).contact = s.contact := rfl
@[simp] theorem closed_unit (e : Element) (o : TrialOutcome) (s : State) : (closed e o s).unit = s.unit := rfl
@[simp] theorem closed_permit (e : Element) (o : TrialOutcome) (s : State) : (closed e o s).permit = s.permit := rfl
@[simp] theorem closed_recovery_ballot (e : Element) (o : TrialOutcome) (s : State) :
    (closed e o s).recovery.ballot = none := rfl
@[simp] theorem closed_recovery_primary (e : Element) (o : TrialOutcome) (s : State) :
    (closed e o s).recovery.primary = s.recovery.primary := rfl
@[simp] theorem closed_recovery_nested (e : Element) (o : TrialOutcome) (s : State) :
    (closed e o s).recovery.nested = s.recovery.nested := rfl
@[simp] theorem closed_retained (e : Element) (o : TrialOutcome) (s : State) :
    (closed e o s).retained = s.retained := rfl
@[simp] theorem closed_osc (e : Element) (o : TrialOutcome) (s : State) : (closed e o s).osc = s.osc := rfl
@[simp] theorem closed_pending (e : Element) (o : TrialOutcome) (s : State) :
    (closed e o s).pending = s.pending := rfl

end Sys2Proof.Machine
end

