-- ==== Sys2Proof/Laws/Frames.lean ====
section
/-! SUPPORT. What the shared operations leave as it was: one lemma for each part of the state that an operation does not
touch. -/

namespace Sys2Proof.Machine

/-- A part of the state that each step of a fold leaves alone is left alone by the fold. -/
theorem foldl_frame {α β : Type} (f : State → α → State) (g : State → β) (h : ∀ a s, g (f s a) = g s) (as : List α) :
    ∀ s, g (as.foldl f s) = g s := by
  induction as with
  | nil => exact fun _ => rfl
  | cons a as ih => exact fun s => (ih (f s a)).trans (h a s)

/-! ### supervise -/

@[simp] theorem supervise_time (p : Port) (s : State) :
    (supervise p s).time = s.time := by unfold supervise; (repeat' split) <;> simp
@[simp] theorem supervise_ports (p : Port) (s : State) :
    (supervise p s).ports = s.ports := by unfold supervise; (repeat' split) <;> simp
@[simp] theorem supervise_table (p : Port) (s : State) :
    (supervise p s).table = s.table := by unfold supervise; (repeat' split) <;> simp
@[simp] theorem supervise_map (p : Port) (s : State) :
    (supervise p s).map = s.map := by unfold supervise; (repeat' split) <;> simp
@[simp] theorem supervise_lines (p : Port) (s : State) :
    (supervise p s).lines = s.lines := by unfold supervise; (repeat' split) <;> simp
@[simp] theorem supervise_unit (p : Port) (s : State) :
    (supervise p s).unit = s.unit := by unfold supervise; (repeat' split) <;> simp
@[simp] theorem supervise_permit (p : Port) (s : State) :
    (supervise p s).permit = s.permit := by unfold supervise; (repeat' split) <;> simp
@[simp] theorem supervise_recovery (p : Port) (s : State) :
    (supervise p s).recovery = s.recovery := by unfold supervise; (repeat' split) <;> simp
@[simp] theorem supervise_retained (p : Port) (s : State) :
    (supervise p s).retained = s.retained := by unfold supervise; (repeat' split) <;> simp
@[simp] theorem supervise_osc (p : Port) (s : State) :
    (supervise p s).osc = s.osc := by unfold supervise; (repeat' split) <;> simp
@[simp] theorem supervise_pending (p : Port) (s : State) :
    (supervise p s).pending = s.pending := by unfold supervise; (repeat' split) <;> simp

/-! ### evaluatePrimary -/

@[simp] theorem evaluatePrimary_time (s : State) :
    (evaluatePrimary s).time = s.time := by unfold evaluatePrimary; (repeat' split) <;> simp
@[simp] theorem evaluatePrimary_table (s : State) :
    (evaluatePrimary s).table = s.table := by unfold evaluatePrimary; (repeat' split) <;> simp
@[simp] theorem evaluatePrimary_map (s : State) :
    (evaluatePrimary s).map = s.map := by unfold evaluatePrimary; (repeat' split) <;> simp
@[simp] theorem evaluatePrimary_lines (s : State) :
    (evaluatePrimary s).lines = s.lines := by unfold evaluatePrimary; (repeat' split) <;> simp
@[simp] theorem evaluatePrimary_contact (s : State) :
    (evaluatePrimary s).contact = s.contact := by unfold evaluatePrimary; (repeat' split) <;> simp
@[simp] theorem evaluatePrimary_retained (s : State) :
    (evaluatePrimary s).retained = s.retained := by unfold evaluatePrimary; (repeat' split) <;> simp
@[simp] theorem evaluatePrimary_osc (s : State) :
    (evaluatePrimary s).osc = s.osc := by unfold evaluatePrimary; (repeat' split) <;> simp
@[simp] theorem evaluatePrimary_pending (s : State) :
    (evaluatePrimary s).pending = s.pending := by unfold evaluatePrimary; (repeat' split) <;> simp
@[simp] theorem evaluatePrimary_unit (s : State) :
    (evaluatePrimary s).unit = s.unit := by unfold evaluatePrimary; (repeat' split) <;> simp
@[simp] theorem evaluatePrimary_permit (s : State) :
    (evaluatePrimary s).permit = s.permit := by unfold evaluatePrimary; (repeat' split) <;> simp
@[simp] theorem evaluatePrimary_recovery_ballot (s : State) :
    (evaluatePrimary s).recovery.ballot = s.recovery.ballot := by unfold evaluatePrimary; (repeat' split) <;> simp
@[simp] theorem evaluatePrimary_recovery_nested (s : State) :
    (evaluatePrimary s).recovery.nested = s.recovery.nested := by unfold evaluatePrimary; (repeat' split) <;> simp
@[simp] theorem evaluatePrimary_receiver (s : State) (q : Port) :
    ((evaluatePrimary s).ports.get q).receiver = (s.ports.get q).receiver := by unfold evaluatePrimary; (repeat' split) <;> simp
@[simp] theorem evaluatePrimary_buffer (s : State) (q : Port) :
    ((evaluatePrimary s).ports.get q).buffer = (s.ports.get q).buffer := by unfold evaluatePrimary; (repeat' split) <;> simp
@[simp] theorem evaluatePrimary_lastError (s : State) (q : Port) :
    ((evaluatePrimary s).ports.get q).lastError = (s.ports.get q).lastError := by unfold evaluatePrimary; (repeat' split) <;> simp
@[simp] theorem evaluatePrimary_reply (s : State) (q : Port) :
    ((evaluatePrimary s).ports.get q).reply = (s.ports.get q).reply := by unfold evaluatePrimary; (repeat' split) <;> simp
@[simp] theorem evaluatePrimary_overlapped (s : State) (q : Port) :
    ((evaluatePrimary s).ports.get q).overlapped = (s.ports.get q).overlapped := by unfold evaluatePrimary; (repeat' split) <;> simp

/-! ### adoptionRoundFor -/

@[simp] theorem adoptionRoundFor_time (d : DrivePort) (s : State) :
    (adoptionRoundFor d s).time = s.time := by unfold adoptionRoundFor; (repeat' split) <;> simp
@[simp] theorem adoptionRoundFor_table (d : DrivePort) (s : State) :
    (adoptionRoundFor d s).table = s.table := by unfold adoptionRoundFor; (repeat' split) <;> simp
@[simp] theorem adoptionRoundFor_map (d : DrivePort) (s : State) :
    (adoptionRoundFor d s).map = s.map := by unfold adoptionRoundFor; (repeat' split) <;> simp
@[simp] theorem adoptionRoundFor_lines (d : DrivePort) (s : State) :
    (adoptionRoundFor d s).lines = s.lines := by unfold adoptionRoundFor; (repeat' split) <;> simp
@[simp] theorem adoptionRoundFor_contact (d : DrivePort) (s : State) :
    (adoptionRoundFor d s).contact = s.contact := by unfold adoptionRoundFor; (repeat' split) <;> simp
@[simp] theorem adoptionRoundFor_retained (d : DrivePort) (s : State) :
    (adoptionRoundFor d s).retained = s.retained := by unfold adoptionRoundFor; (repeat' split) <;> simp
@[simp] theorem adoptionRoundFor_osc (d : DrivePort) (s : State) :
    (adoptionRoundFor d s).osc = s.osc := by unfold adoptionRoundFor; (repeat' split) <;> simp
@[simp] theorem adoptionRoundFor_pending (d : DrivePort) (s : State) :
    (adoptionRoundFor d s).pending = s.pending := by unfold adoptionRoundFor; (repeat' split) <;> simp
@[simp] theorem adoptionRoundFor_ports (d : DrivePort) (s : State) :
    (adoptionRoundFor d s).ports = s.ports := by unfold adoptionRoundFor; (repeat' split) <;> simp
@[simp] theorem adoptionRoundFor_permit (d : DrivePort) (s : State) :
    (adoptionRoundFor d s).permit = s.permit := by unfold adoptionRoundFor; (repeat' split) <;> simp
@[simp] theorem adoptionRoundFor_recovery (d : DrivePort) (s : State) :
    (adoptionRoundFor d s).recovery = s.recovery := by unfold adoptionRoundFor; (repeat' split) <;> simp
@[simp] theorem adoptionRoundFor_unit_floors (d : DrivePort) (s : State) :
    (adoptionRoundFor d s).unit.floors = s.unit.floors := by unfold adoptionRoundFor; (repeat' split) <;> simp
@[simp] theorem adoptionRoundFor_unit_target (d : DrivePort) (s : State) :
    (adoptionRoundFor d s).unit.target = s.unit.target := by unfold adoptionRoundFor; (repeat' split) <;> simp
@[simp] theorem adoptionRoundFor_unit_envelope (d : DrivePort) (s : State) :
    (adoptionRoundFor d s).unit.envelope = s.unit.envelope := by unfold adoptionRoundFor; (repeat' split) <;> simp
@[simp] theorem adoptionRoundFor_unit_generation (d : DrivePort) (s : State) :
    (adoptionRoundFor d s).unit.generation = s.unit.generation := by unfold adoptionRoundFor; (repeat' split) <;> simp
@[simp] theorem adoptionRoundFor_unit_dwell (d : DrivePort) (s : State) :
    (adoptionRoundFor d s).unit.dwell = s.unit.dwell := by unfold adoptionRoundFor; (repeat' split) <;> simp

/-! ### adoptionRound -/

@[simp] theorem adoptionRound_time (s : State) :
    (adoptionRound s).time = s.time := by simp [adoptionRound]
@[simp] theorem adoptionRound_table (s : State) :
    (adoptionRound s).table = s.table := by simp [adoptionRound]
@[simp] theorem adoptionRound_map (s : State) :
    (adoptionRound s).map = s.map := by simp [adoptionRound]
@[simp] theorem adoptionRound_lines (s : State) :
    (adoptionRound s).lines = s.lines := by simp [adoptionRound]
@[simp] theorem adoptionRound_contact (s : State) :
    (adoptionRound s).contact = s.contact := by simp [adoptionRound]
@[simp] theorem adoptionRound_retained (s : State) :
    (adoptionRound s).retained = s.retained := by simp [adoptionRound]
@[simp] theorem adoptionRound_osc (s : State) :
    (adoptionRound s).osc = s.osc := by simp [adoptionRound]
@[simp] theorem adoptionRound_pending (s : State) :
    (adoptionRound s).pending = s.pending := by simp [adoptionRound]
@[simp] theorem adoptionRound_ports (s : State) :
    (adoptionRound s).ports = s.ports := by simp [adoptionRound]
@[simp] theorem adoptionRound_permit (s : State) :
    (adoptionRound s).permit = s.permit := by simp [adoptionRound]
@[simp] theorem adoptionRound_recovery (s : State) :
    (adoptionRound s).recovery = s.recovery := by simp [adoptionRound]
@[simp] theorem adoptionRound_unit_floors (s : State) :
    (adoptionRound s).unit.floors = s.unit.floors := by simp [adoptionRound]
@[simp] theorem adoptionRound_unit_target (s : State) :
    (adoptionRound s).unit.target = s.unit.target := by simp [adoptionRound]
@[simp] theorem adoptionRound_unit_envelope (s : State) :
    (adoptionRound s).unit.envelope = s.unit.envelope := by simp [adoptionRound]
@[simp] theorem adoptionRound_unit_generation (s : State) :
    (adoptionRound s).unit.generation = s.unit.generation := by simp [adoptionRound]
@[simp] theorem adoptionRound_unit_dwell (s : State) :
    (adoptionRound s).unit.dwell = s.unit.dwell := by simp [adoptionRound]

/-! ### clearForbidden -/

@[simp] theorem clearForbidden_time (d : DrivePort) (s : State) :
    (clearForbidden d s).time = s.time := by unfold clearForbidden; (repeat' split) <;> simp
@[simp] theorem clearForbidden_table (d : DrivePort) (s : State) :
    (clearForbidden d s).table = s.table := by unfold clearForbidden; (repeat' split) <;> simp
@[simp] theorem clearForbidden_map (d : DrivePort) (s : State) :
    (clearForbidden d s).map = s.map := by unfold clearForbidden; (repeat' split) <;> simp
@[simp] theorem clearForbidden_lines (d : DrivePort) (s : State) :
    (clearForbidden d s).lines = s.lines := by unfold clearForbidden; (repeat' split) <;> simp
@[simp] theorem clearForbidden_contact (d : DrivePort) (s : State) :
    (clearForbidden d s).contact = s.contact := by unfold clearForbidden; (repeat' split) <;> simp
@[simp] theorem clearForbidden_retained (d : DrivePort) (s : State) :
    (clearForbidden d s).retained = s.retained := by unfold clearForbidden; (repeat' split) <;> simp
@[simp] theorem clearForbidden_osc (d : DrivePort) (s : State) :
    (clearForbidden d s).osc = s.osc := by unfold clearForbidden; (repeat' split) <;> simp
@[simp] theorem clearForbidden_pending (d : DrivePort) (s : State) :
    (clearForbidden d s).pending = s.pending := by unfold clearForbidden; (repeat' split) <;> simp
@[simp] theorem clearForbidden_ports (d : DrivePort) (s : State) :
    (clearForbidden d s).ports = s.ports := by unfold clearForbidden; (repeat' split) <;> simp
@[simp] theorem clearForbidden_permit (d : DrivePort) (s : State) :
    (clearForbidden d s).permit = s.permit := by unfold clearForbidden; (repeat' split) <;> simp
@[simp] theorem clearForbidden_recovery (d : DrivePort) (s : State) :
    (clearForbidden d s).recovery = s.recovery := by unfold clearForbidden; (repeat' split) <;> simp
@[simp] theorem clearForbidden_unit_floors (d : DrivePort) (s : State) :
    (clearForbidden d s).unit.floors = s.unit.floors := by unfold clearForbidden; (repeat' split) <;> simp
@[simp] theorem clearForbidden_unit_target (d : DrivePort) (s : State) :
    (clearForbidden d s).unit.target = s.unit.target := by unfold clearForbidden; (repeat' split) <;> simp
@[simp] theorem clearForbidden_unit_envelope (d : DrivePort) (s : State) :
    (clearForbidden d s).unit.envelope = s.unit.envelope := by unfold clearForbidden; (repeat' split) <;> simp
@[simp] theorem clearForbidden_unit_generation (d : DrivePort) (s : State) :
    (clearForbidden d s).unit.generation = s.unit.generation := by unfold clearForbidden; (repeat' split) <;> simp
@[simp] theorem clearForbidden_unit_dwell (d : DrivePort) (s : State) :
    (clearForbidden d s).unit.dwell = s.unit.dwell := by unfold clearForbidden; (repeat' split) <;> simp

/-! ### publishEnvelope -/

@[simp] theorem publishEnvelope_time (v : Envelope) (s : State) :
    (publishEnvelope v s).time = s.time := by simp [publishEnvelope]
@[simp] theorem publishEnvelope_table (v : Envelope) (s : State) :
    (publishEnvelope v s).table = s.table := by simp [publishEnvelope]
@[simp] theorem publishEnvelope_map (v : Envelope) (s : State) :
    (publishEnvelope v s).map = s.map := by simp [publishEnvelope]
@[simp] theorem publishEnvelope_lines (v : Envelope) (s : State) :
    (publishEnvelope v s).lines = s.lines := by simp [publishEnvelope]
@[simp] theorem publishEnvelope_contact (v : Envelope) (s : State) :
    (publishEnvelope v s).contact = s.contact := by simp [publishEnvelope]
@[simp] theorem publishEnvelope_retained (v : Envelope) (s : State) :
    (publishEnvelope v s).retained = s.retained := by simp [publishEnvelope]
@[simp] theorem publishEnvelope_osc (v : Envelope) (s : State) :
    (publishEnvelope v s).osc = s.osc := by simp [publishEnvelope]
@[simp] theorem publishEnvelope_pending (v : Envelope) (s : State) :
    (publishEnvelope v s).pending = s.pending := by simp [publishEnvelope]
@[simp] theorem publishEnvelope_permit (v : Envelope) (s : State) :
    (publishEnvelope v s).permit = s.permit := by simp [publishEnvelope]
@[simp] theorem publishEnvelope_recovery (v : Envelope) (s : State) :
    (publishEnvelope v s).recovery = s.recovery := by simp [publishEnvelope]
@[simp] theorem publishEnvelope_unit_floors (v : Envelope) (s : State) :
    (publishEnvelope v s).unit.floors = s.unit.floors := by simp [publishEnvelope]
@[simp] theorem publishEnvelope_unit_target (v : Envelope) (s : State) :
    (publishEnvelope v s).unit.target = s.unit.target := by simp [publishEnvelope]
@[simp] theorem publishEnvelope_unit_dwell (v : Envelope) (s : State) :
    (publishEnvelope v s).unit.dwell = s.unit.dwell := by simp [publishEnvelope]
@[simp] theorem publishEnvelope_receiver (v : Envelope) (s : State) (q : Port) :
    ((publishEnvelope v s).ports.get q).receiver = (s.ports.get q).receiver := by simp [publishEnvelope]
@[simp] theorem publishEnvelope_buffer (v : Envelope) (s : State) (q : Port) :
    ((publishEnvelope v s).ports.get q).buffer = (s.ports.get q).buffer := by simp [publishEnvelope]
@[simp] theorem publishEnvelope_lastError (v : Envelope) (s : State) (q : Port) :
    ((publishEnvelope v s).ports.get q).lastError = (s.ports.get q).lastError := by simp [publishEnvelope]
@[simp] theorem publishEnvelope_reply (v : Envelope) (s : State) (q : Port) :
    ((publishEnvelope v s).ports.get q).reply = (s.ports.get q).reply := by simp [publishEnvelope]
@[simp] theorem publishEnvelope_overlapped (v : Envelope) (s : State) (q : Port) :
    ((publishEnvelope v s).ports.get q).overlapped = (s.ports.get q).overlapped := by simp [publishEnvelope]

/-! ### changeEnvelope -/

@[simp] theorem changeEnvelope_time (v : Envelope) (s : State) :
    (changeEnvelope v s).time = s.time := by unfold changeEnvelope; (repeat' split) <;> simp
@[simp] theorem changeEnvelope_table (v : Envelope) (s : State) :
    (changeEnvelope v s).table = s.table := by unfold changeEnvelope; (repeat' split) <;> simp
@[simp] theorem changeEnvelope_map (v : Envelope) (s : State) :
    (changeEnvelope v s).map = s.map := by unfold changeEnvelope; (repeat' split) <;> simp
@[simp] theorem changeEnvelope_lines (v : Envelope) (s : State) :
    (changeEnvelope v s).lines = s.lines := by unfold changeEnvelope; (repeat' split) <;> simp
@[simp] theorem changeEnvelope_contact (v : Envelope) (s : State) :
    (changeEnvelope v s).contact = s.contact := by unfold changeEnvelope; (repeat' split) <;> simp
@[simp] theorem changeEnvelope_retained (v : Envelope) (s : State) :
    (changeEnvelope v s).retained = s.retained := by unfold changeEnvelope; (repeat' split) <;> simp
@[simp] theorem changeEnvelope_osc (v : Envelope) (s : State) :
    (changeEnvelope v s).osc = s.osc := by unfold changeEnvelope; (repeat' split) <;> simp
@[simp] theorem changeEnvelope_pending (v : Envelope) (s : State) :
    (changeEnvelope v s).pending = s.pending := by unfold changeEnvelope; (repeat' split) <;> simp
@[simp] theorem changeEnvelope_permit_mismatch (v : Envelope) (s : State) :
    (changeEnvelope v s).permit.mismatch = s.permit.mismatch := by unfold changeEnvelope; (repeat' split) <;> simp
@[simp] theorem changeEnvelope_recovery_ballot (v : Envelope) (s : State) :
    (changeEnvelope v s).recovery.ballot = s.recovery.ballot := by unfold changeEnvelope; (repeat' split) <;> simp
@[simp] theorem changeEnvelope_recovery_nested (v : Envelope) (s : State) :
    (changeEnvelope v s).recovery.nested = s.recovery.nested := by unfold changeEnvelope; (repeat' split) <;> simp
@[simp] theorem changeEnvelope_unit_floors (v : Envelope) (s : State) :
    (changeEnvelope v s).unit.floors = s.unit.floors := by unfold changeEnvelope; (repeat' split) <;> simp
@[simp] theorem changeEnvelope_unit_target (v : Envelope) (s : State) :
    (changeEnvelope v s).unit.target = s.unit.target := by unfold changeEnvelope; (repeat' split) <;> simp
@[simp] theorem changeEnvelope_unit_dwell (v : Envelope) (s : State) :
    (changeEnvelope v s).unit.dwell = s.unit.dwell := by unfold changeEnvelope; (repeat' split) <;> simp
@[simp] theorem changeEnvelope_receiver (v : Envelope) (s : State) (q : Port) :
    ((changeEnvelope v s).ports.get q).receiver = (s.ports.get q).receiver := by unfold changeEnvelope; (repeat' split) <;> simp
@[simp] theorem changeEnvelope_buffer (v : Envelope) (s : State) (q : Port) :
    ((changeEnvelope v s).ports.get q).buffer = (s.ports.get q).buffer := by unfold changeEnvelope; (repeat' split) <;> simp
@[simp] theorem changeEnvelope_lastError (v : Envelope) (s : State) (q : Port) :
    ((changeEnvelope v s).ports.get q).lastError = (s.ports.get q).lastError := by unfold changeEnvelope; (repeat' split) <;> simp
@[simp] theorem changeEnvelope_reply (v : Envelope) (s : State) (q : Port) :
    ((changeEnvelope v s).ports.get q).reply = (s.ports.get q).reply := by unfold changeEnvelope; (repeat' split) <;> simp
@[simp] theorem changeEnvelope_overlapped (v : Envelope) (s : State) (q : Port) :
    ((changeEnvelope v s).ports.get q).overlapped = (s.ports.get q).overlapped := by unfold changeEnvelope; (repeat' split) <;> simp

/-! ### publish -/

@[simp] theorem publish_time (s : State) :
    (publish s).time = s.time := by simp only [publish]; (repeat' split) <;> simp
@[simp] theorem publish_table (s : State) :
    (publish s).table = s.table := by simp only [publish]; (repeat' split) <;> simp
@[simp] theorem publish_map (s : State) :
    (publish s).map = s.map := by simp only [publish]; (repeat' split) <;> simp
@[simp] theorem publish_lines (s : State) :
    (publish s).lines = s.lines := by simp only [publish]; (repeat' split) <;> simp
@[simp] theorem publish_contact (s : State) :
    (publish s).contact = s.contact := by simp only [publish]; (repeat' split) <;> simp
@[simp] theorem publish_retained (s : State) :
    (publish s).retained = s.retained := by simp only [publish]; (repeat' split) <;> simp
@[simp] theorem publish_osc (s : State) :
    (publish s).osc = s.osc := by simp only [publish]; (repeat' split) <;> simp
@[simp] theorem publish_pending (s : State) :
    (publish s).pending = s.pending := by simp only [publish]; (repeat' split) <;> simp
@[simp] theorem publish_permit_mismatch (s : State) :
    (publish s).permit.mismatch = s.permit.mismatch := by simp only [publish]; (repeat' split) <;> simp
@[simp] theorem publish_recovery_ballot (s : State) :
    (publish s).recovery.ballot = s.recovery.ballot := by simp only [publish]; (repeat' split) <;> simp
@[simp] theorem publish_recovery_nested (s : State) :
    (publish s).recovery.nested = s.recovery.nested := by simp only [publish]; (repeat' split) <;> simp
@[simp] theorem publish_unit_floors (s : State) :
    (publish s).unit.floors = s.unit.floors := by simp only [publish]; (repeat' split) <;> simp
@[simp] theorem publish_unit_target (s : State) :
    (publish s).unit.target = s.unit.target := by simp only [publish]; (repeat' split) <;> simp
@[simp] theorem publish_receiver (s : State) (q : Port) :
    ((publish s).ports.get q).receiver = (s.ports.get q).receiver := by simp only [publish]; (repeat' split) <;> simp
@[simp] theorem publish_buffer (s : State) (q : Port) :
    ((publish s).ports.get q).buffer = (s.ports.get q).buffer := by simp only [publish]; (repeat' split) <;> simp
@[simp] theorem publish_lastError (s : State) (q : Port) :
    ((publish s).ports.get q).lastError = (s.ports.get q).lastError := by simp only [publish]; (repeat' split) <;> simp
@[simp] theorem publish_reply (s : State) (q : Port) :
    ((publish s).ports.get q).reply = (s.ports.get q).reply := by simp only [publish]; (repeat' split) <;> simp
@[simp] theorem publish_overlapped (s : State) (q : Port) :
    ((publish s).ports.get q).overlapped = (s.ports.get q).overlapped := by simp only [publish]; (repeat' split) <;> simp

/-! ### recompute -/

@[simp] theorem recompute_time (s : State) :
    (recompute s).time = s.time := by unfold recompute; (repeat' split) <;> simp
@[simp] theorem recompute_table (s : State) :
    (recompute s).table = s.table := by unfold recompute; (repeat' split) <;> simp
@[simp] theorem recompute_map (s : State) :
    (recompute s).map = s.map := by unfold recompute; (repeat' split) <;> simp
@[simp] theorem recompute_lines (s : State) :
    (recompute s).lines = s.lines := by unfold recompute; (repeat' split) <;> simp
@[simp] theorem recompute_contact (s : State) :
    (recompute s).contact = s.contact := by unfold recompute; (repeat' split) <;> simp
@[simp] theorem recompute_retained (s : State) :
    (recompute s).retained = s.retained := by unfold recompute; (repeat' split) <;> simp
@[simp] theorem recompute_osc (s : State) :
    (recompute s).osc = s.osc := by unfold recompute; (repeat' split) <;> simp
@[simp] theorem recompute_pending (s : State) :
    (recompute s).pending = s.pending := by unfold recompute; (repeat' split) <;> simp
@[simp] theorem recompute_permit_mismatch (s : State) :
    (recompute s).permit.mismatch = s.permit.mismatch := by unfold recompute; (repeat' split) <;> simp
@[simp] theorem recompute_recovery_ballot (s : State) :
    (recompute s).recovery.ballot = s.recovery.ballot := by unfold recompute; (repeat' split) <;> simp
@[simp] theorem recompute_recovery_nested (s : State) :
    (recompute s).recovery.nested = s.recovery.nested := by unfold recompute; (repeat' split) <;> simp
@[simp] theorem recompute_unit_floors (s : State) :
    (recompute s).unit.floors = s.unit.floors := by unfold recompute; (repeat' split) <;> simp
@[simp] theorem recompute_receiver (s : State) (q : Port) :
    ((recompute s).ports.get q).receiver = (s.ports.get q).receiver := by unfold recompute; (repeat' split) <;> simp
@[simp] theorem recompute_buffer (s : State) (q : Port) :
    ((recompute s).ports.get q).buffer = (s.ports.get q).buffer := by unfold recompute; (repeat' split) <;> simp
@[simp] theorem recompute_lastError (s : State) (q : Port) :
    ((recompute s).ports.get q).lastError = (s.ports.get q).lastError := by unfold recompute; (repeat' split) <;> simp
@[simp] theorem recompute_reply (s : State) (q : Port) :
    ((recompute s).ports.get q).reply = (s.ports.get q).reply := by unfold recompute; (repeat' split) <;> simp
@[simp] theorem recompute_overlapped (s : State) (q : Port) :
    ((recompute s).ports.get q).overlapped = (s.ports.get q).overlapped := by unfold recompute; (repeat' split) <;> simp

/-! ### closeBallot -/

@[simp] theorem closeBallot_time (o : Option TrialOutcome) (s : State) :
    (closeBallot o s).time = s.time := by unfold closeBallot; split <;> (try split) <;> simp
@[simp] theorem closeBallot_table (o : Option TrialOutcome) (s : State) :
    (closeBallot o s).table = s.table := by unfold closeBallot; split <;> (try split) <;> simp
@[simp] theorem closeBallot_map (o : Option TrialOutcome) (s : State) :
    (closeBallot o s).map = s.map := by unfold closeBallot; split <;> (try split) <;> simp
@[simp] theorem closeBallot_lines (o : Option TrialOutcome) (s : State) :
    (closeBallot o s).lines = s.lines := by unfold closeBallot; split <;> (try split) <;> simp
@[simp] theorem closeBallot_contact (o : Option TrialOutcome) (s : State) :
    (closeBallot o s).contact = s.contact := by unfold closeBallot; split <;> (try split) <;> simp
@[simp] theorem closeBallot_unit (o : Option TrialOutcome) (s : State) :
    (closeBallot o s).unit = s.unit := by unfold closeBallot; split <;> (try split) <;> simp
@[simp] theorem closeBallot_permit (o : Option TrialOutcome) (s : State) :
    (closeBallot o s).permit = s.permit := by unfold closeBallot; split <;> (try split) <;> simp
@[simp] theorem closeBallot_retained (o : Option TrialOutcome) (s : State) :
    (closeBallot o s).retained = s.retained := by unfold closeBallot; split <;> (try split) <;> simp
@[simp] theorem closeBallot_osc (o : Option TrialOutcome) (s : State) :
    (closeBallot o s).osc = s.osc := by unfold closeBallot; split <;> (try split) <;> simp
@[simp] theorem closeBallot_pending (o : Option TrialOutcome) (s : State) :
    (closeBallot o s).pending = s.pending := by unfold closeBallot; split <;> (try split) <;> simp
@[simp] theorem closeBallot_recovery_primary (o : Option TrialOutcome) (s : State) :
    (closeBallot o s).recovery.primary = s.recovery.primary := by unfold closeBallot; split <;> (try split) <;> simp
@[simp] theorem closeBallot_recovery_nested (o : Option TrialOutcome) (s : State) :
    (closeBallot o s).recovery.nested = s.recovery.nested := by unfold closeBallot; split <;> (try split) <;> simp
@[simp] theorem closeBallot_receiver (o : Option TrialOutcome) (s : State) (q : Port) :
    ((closeBallot o s).ports.get q).receiver = (s.ports.get q).receiver := by unfold closeBallot; split <;> (try split) <;> simp
@[simp] theorem closeBallot_buffer (o : Option TrialOutcome) (s : State) (q : Port) :
    ((closeBallot o s).ports.get q).buffer = (s.ports.get q).buffer := by unfold closeBallot; split <;> (try split) <;> simp
@[simp] theorem closeBallot_lastError (o : Option TrialOutcome) (s : State) (q : Port) :
    ((closeBallot o s).ports.get q).lastError = (s.ports.get q).lastError := by unfold closeBallot; split <;> (try split) <;> simp
@[simp] theorem closeBallot_reply (o : Option TrialOutcome) (s : State) (q : Port) :
    ((closeBallot o s).ports.get q).reply = (s.ports.get q).reply := by unfold closeBallot; split <;> (try split) <;> simp
@[simp] theorem closeBallot_overlapped (o : Option TrialOutcome) (s : State) (q : Port) :
    ((closeBallot o s).ports.get q).overlapped = (s.ports.get q).overlapped := by unfold closeBallot; split <;> (try split) <;> simp

/-! ### voidIfNamed -/

@[simp] theorem voidIfNamed_time (e : Element) (s : State) :
    (voidIfNamed e s).time = s.time := by unfold voidIfNamed; (repeat' split) <;> simp
@[simp] theorem voidIfNamed_table (e : Element) (s : State) :
    (voidIfNamed e s).table = s.table := by unfold voidIfNamed; (repeat' split) <;> simp
@[simp] theorem voidIfNamed_map (e : Element) (s : State) :
    (voidIfNamed e s).map = s.map := by unfold voidIfNamed; (repeat' split) <;> simp
@[simp] theorem voidIfNamed_lines (e : Element) (s : State) :
    (voidIfNamed e s).lines = s.lines := by unfold voidIfNamed; (repeat' split) <;> simp
@[simp] theorem voidIfNamed_contact (e : Element) (s : State) :
    (voidIfNamed e s).contact = s.contact := by unfold voidIfNamed; (repeat' split) <;> simp
@[simp] theorem voidIfNamed_unit (e : Element) (s : State) :
    (voidIfNamed e s).unit = s.unit := by unfold voidIfNamed; (repeat' split) <;> simp
@[simp] theorem voidIfNamed_permit (e : Element) (s : State) :
    (voidIfNamed e s).permit = s.permit := by unfold voidIfNamed; (repeat' split) <;> simp
@[simp] theorem voidIfNamed_retained (e : Element) (s : State) :
    (voidIfNamed e s).retained = s.retained := by unfold voidIfNamed; (repeat' split) <;> simp
@[simp] theorem voidIfNamed_osc (e : Element) (s : State) :
    (voidIfNamed e s).osc = s.osc := by unfold voidIfNamed; (repeat' split) <;> simp
@[simp] theorem voidIfNamed_pending (e : Element) (s : State) :
    (voidIfNamed e s).pending = s.pending := by unfold voidIfNamed; (repeat' split) <;> simp
@[simp] theorem voidIfNamed_recovery_primary (e : Element) (s : State) :
    (voidIfNamed e s).recovery.primary = s.recovery.primary := by unfold voidIfNamed; (repeat' split) <;> simp
@[simp] theorem voidIfNamed_recovery_nested (e : Element) (s : State) :
    (voidIfNamed e s).recovery.nested = s.recovery.nested := by unfold voidIfNamed; (repeat' split) <;> simp
@[simp] theorem voidIfNamed_receiver (e : Element) (s : State) (q : Port) :
    ((voidIfNamed e s).ports.get q).receiver = (s.ports.get q).receiver := by unfold voidIfNamed; (repeat' split) <;> simp
@[simp] theorem voidIfNamed_buffer (e : Element) (s : State) (q : Port) :
    ((voidIfNamed e s).ports.get q).buffer = (s.ports.get q).buffer := by unfold voidIfNamed; (repeat' split) <;> simp
@[simp] theorem voidIfNamed_lastError (e : Element) (s : State) (q : Port) :
    ((voidIfNamed e s).ports.get q).lastError = (s.ports.get q).lastError := by unfold voidIfNamed; (repeat' split) <;> simp
@[simp] theorem voidIfNamed_reply (e : Element) (s : State) (q : Port) :
    ((voidIfNamed e s).ports.get q).reply = (s.ports.get q).reply := by unfold voidIfNamed; (repeat' split) <;> simp
@[simp] theorem voidIfNamed_overlapped (e : Element) (s : State) (q : Port) :
    ((voidIfNamed e s).ports.get q).overlapped = (s.ports.get q).overlapped := by unfold voidIfNamed; (repeat' split) <;> simp

/-! ### voidIfAsked -/

@[simp] theorem voidIfAsked_time (p : Port) (s : State) :
    (voidIfAsked p s).time = s.time := by unfold voidIfAsked; (repeat' split) <;> simp
@[simp] theorem voidIfAsked_table (p : Port) (s : State) :
    (voidIfAsked p s).table = s.table := by unfold voidIfAsked; (repeat' split) <;> simp
@[simp] theorem voidIfAsked_map (p : Port) (s : State) :
    (voidIfAsked p s).map = s.map := by unfold voidIfAsked; (repeat' split) <;> simp
@[simp] theorem voidIfAsked_lines (p : Port) (s : State) :
    (voidIfAsked p s).lines = s.lines := by unfold voidIfAsked; (repeat' split) <;> simp
@[simp] theorem voidIfAsked_contact (p : Port) (s : State) :
    (voidIfAsked p s).contact = s.contact := by unfold voidIfAsked; (repeat' split) <;> simp
@[simp] theorem voidIfAsked_unit (p : Port) (s : State) :
    (voidIfAsked p s).unit = s.unit := by unfold voidIfAsked; (repeat' split) <;> simp
@[simp] theorem voidIfAsked_permit (p : Port) (s : State) :
    (voidIfAsked p s).permit = s.permit := by unfold voidIfAsked; (repeat' split) <;> simp
@[simp] theorem voidIfAsked_retained (p : Port) (s : State) :
    (voidIfAsked p s).retained = s.retained := by unfold voidIfAsked; (repeat' split) <;> simp
@[simp] theorem voidIfAsked_osc (p : Port) (s : State) :
    (voidIfAsked p s).osc = s.osc := by unfold voidIfAsked; (repeat' split) <;> simp
@[simp] theorem voidIfAsked_pending (p : Port) (s : State) :
    (voidIfAsked p s).pending = s.pending := by unfold voidIfAsked; (repeat' split) <;> simp
@[simp] theorem voidIfAsked_recovery_primary (p : Port) (s : State) :
    (voidIfAsked p s).recovery.primary = s.recovery.primary := by unfold voidIfAsked; (repeat' split) <;> simp
@[simp] theorem voidIfAsked_recovery_nested (p : Port) (s : State) :
    (voidIfAsked p s).recovery.nested = s.recovery.nested := by unfold voidIfAsked; (repeat' split) <;> simp
@[simp] theorem voidIfAsked_receiver (p : Port) (s : State) (q : Port) :
    ((voidIfAsked p s).ports.get q).receiver = (s.ports.get q).receiver := by unfold voidIfAsked; (repeat' split) <;> simp
@[simp] theorem voidIfAsked_buffer (p : Port) (s : State) (q : Port) :
    ((voidIfAsked p s).ports.get q).buffer = (s.ports.get q).buffer := by unfold voidIfAsked; (repeat' split) <;> simp
@[simp] theorem voidIfAsked_lastError (p : Port) (s : State) (q : Port) :
    ((voidIfAsked p s).ports.get q).lastError = (s.ports.get q).lastError := by unfold voidIfAsked; (repeat' split) <;> simp
@[simp] theorem voidIfAsked_reply (p : Port) (s : State) (q : Port) :
    ((voidIfAsked p s).ports.get q).reply = (s.ports.get q).reply := by unfold voidIfAsked; (repeat' split) <;> simp
@[simp] theorem voidIfAsked_overlapped (p : Port) (s : State) (q : Port) :
    ((voidIfAsked p s).ports.get q).overlapped = (s.ports.get q).overlapped := by unfold voidIfAsked; (repeat' split) <;> simp

/-! ### dropAdoption -/

@[simp] theorem dropAdoption_time (d : DrivePort) (s : State) :
    (dropAdoption d s).time = s.time := by simp [dropAdoption]
@[simp] theorem dropAdoption_table (d : DrivePort) (s : State) :
    (dropAdoption d s).table = s.table := by simp [dropAdoption]
@[simp] theorem dropAdoption_map (d : DrivePort) (s : State) :
    (dropAdoption d s).map = s.map := by simp [dropAdoption]
@[simp] theorem dropAdoption_lines (d : DrivePort) (s : State) :
    (dropAdoption d s).lines = s.lines := by simp [dropAdoption]
@[simp] theorem dropAdoption_contact (d : DrivePort) (s : State) :
    (dropAdoption d s).contact = s.contact := by simp [dropAdoption]
@[simp] theorem dropAdoption_retained (d : DrivePort) (s : State) :
    (dropAdoption d s).retained = s.retained := by simp [dropAdoption]
@[simp] theorem dropAdoption_osc (d : DrivePort) (s : State) :
    (dropAdoption d s).osc = s.osc := by simp [dropAdoption]
@[simp] theorem dropAdoption_pending (d : DrivePort) (s : State) :
    (dropAdoption d s).pending = s.pending := by simp [dropAdoption]
@[simp] theorem dropAdoption_ports (d : DrivePort) (s : State) :
    (dropAdoption d s).ports = s.ports := by simp [dropAdoption]
@[simp] theorem dropAdoption_recovery (d : DrivePort) (s : State) :
    (dropAdoption d s).recovery = s.recovery := by simp [dropAdoption]
@[simp] theorem dropAdoption_permit_mismatch (d : DrivePort) (s : State) :
    (dropAdoption d s).permit.mismatch = s.permit.mismatch := by simp [dropAdoption]
@[simp] theorem dropAdoption_unit_floors (d : DrivePort) (s : State) :
    (dropAdoption d s).unit.floors = s.unit.floors := by simp [dropAdoption]
@[simp] theorem dropAdoption_unit_target (d : DrivePort) (s : State) :
    (dropAdoption d s).unit.target = s.unit.target := by simp [dropAdoption]
@[simp] theorem dropAdoption_unit_envelope (d : DrivePort) (s : State) :
    (dropAdoption d s).unit.envelope = s.unit.envelope := by simp [dropAdoption]
@[simp] theorem dropAdoption_unit_generation (d : DrivePort) (s : State) :
    (dropAdoption d s).unit.generation = s.unit.generation := by simp [dropAdoption]
@[simp] theorem dropAdoption_unit_dwell (d : DrivePort) (s : State) :
    (dropAdoption d s).unit.dwell = s.unit.dwell := by simp [dropAdoption]

/-! ### announceOut -/

@[simp] theorem announceOut_time (p : Port) (s : State) :
    (announceOut p s).time = s.time := by simp only [announceOut]; split <;> simp
@[simp] theorem announceOut_table (p : Port) (s : State) :
    (announceOut p s).table = s.table := by simp only [announceOut]; split <;> simp
@[simp] theorem announceOut_map (p : Port) (s : State) :
    (announceOut p s).map = s.map := by simp only [announceOut]; split <;> simp
@[simp] theorem announceOut_lines (p : Port) (s : State) :
    (announceOut p s).lines = s.lines := by simp only [announceOut]; split <;> simp
@[simp] theorem announceOut_retained (p : Port) (s : State) :
    (announceOut p s).retained = s.retained := by simp only [announceOut]; split <;> simp
@[simp] theorem announceOut_osc (p : Port) (s : State) :
    (announceOut p s).osc = s.osc := by simp only [announceOut]; split <;> simp
@[simp] theorem announceOut_pending (p : Port) (s : State) :
    (announceOut p s).pending = s.pending := by simp only [announceOut]; split <;> simp
@[simp] theorem announceOut_permit_mismatch (p : Port) (s : State) :
    (announceOut p s).permit.mismatch = s.permit.mismatch := by simp only [announceOut]; split <;> simp
@[simp] theorem announceOut_unit_target (p : Port) (s : State) :
    (announceOut p s).unit.target = s.unit.target := by simp only [announceOut]; split <;> simp
@[simp] theorem announceOut_unit_envelope (p : Port) (s : State) :
    (announceOut p s).unit.envelope = s.unit.envelope := by simp only [announceOut]; split <;> simp
@[simp] theorem announceOut_unit_generation (p : Port) (s : State) :
    (announceOut p s).unit.generation = s.unit.generation := by simp only [announceOut]; split <;> simp
@[simp] theorem announceOut_unit_dwell (p : Port) (s : State) :
    (announceOut p s).unit.dwell = s.unit.dwell := by simp only [announceOut]; split <;> simp
@[simp] theorem announceOut_recovery_primary (p : Port) (s : State) :
    (announceOut p s).recovery.primary = s.recovery.primary := by simp only [announceOut]; split <;> simp
@[simp] theorem announceOut_recovery_nested (p : Port) (s : State) :
    (announceOut p s).recovery.nested = s.recovery.nested := by simp only [announceOut]; split <;> simp
@[simp] theorem announceOut_receiver (p : Port) (s : State) (q : Port) :
    ((announceOut p s).ports.get q).receiver = (s.ports.get q).receiver := by simp only [announceOut]; split <;> simp
@[simp] theorem announceOut_buffer (p : Port) (s : State) (q : Port) :
    ((announceOut p s).ports.get q).buffer = (s.ports.get q).buffer := by simp only [announceOut]; split <;> simp
@[simp] theorem announceOut_lastError (p : Port) (s : State) (q : Port) :
    ((announceOut p s).ports.get q).lastError = (s.ports.get q).lastError := by simp only [announceOut]; split <;> simp
@[simp] theorem announceOut_reply (p : Port) (s : State) (q : Port) :
    ((announceOut p s).ports.get q).reply = (s.ports.get q).reply := by simp only [announceOut]; split <;> simp
@[simp] theorem announceOut_overlapped (p : Port) (s : State) (q : Port) :
    ((announceOut p s).ports.get q).overlapped = (s.ports.get q).overlapped := by simp only [announceOut]; split <;> simp

/-! ### announceReturned -/

@[simp] theorem announceReturned_time (p : Port) (s : State) :
    (announceReturned p s).time = s.time := by simp only [announceReturned]; split <;> simp
@[simp] theorem announceReturned_ports (p : Port) (s : State) :
    (announceReturned p s).ports = s.ports := by simp only [announceReturned]; split <;> simp
@[simp] theorem announceReturned_table (p : Port) (s : State) :
    (announceReturned p s).table = s.table := by simp only [announceReturned]; split <;> simp
@[simp] theorem announceReturned_map (p : Port) (s : State) :
    (announceReturned p s).map = s.map := by simp only [announceReturned]; split <;> simp
@[simp] theorem announceReturned_lines (p : Port) (s : State) :
    (announceReturned p s).lines = s.lines := by simp only [announceReturned]; split <;> simp
@[simp] theorem announceReturned_retained (p : Port) (s : State) :
    (announceReturned p s).retained = s.retained := by simp only [announceReturned]; split <;> simp
@[simp] theorem announceReturned_osc (p : Port) (s : State) :
    (announceReturned p s).osc = s.osc := by simp only [announceReturned]; split <;> simp
@[simp] theorem announceReturned_pending (p : Port) (s : State) :
    (announceReturned p s).pending = s.pending := by simp only [announceReturned]; split <;> simp
@[simp] theorem announceReturned_permit (p : Port) (s : State) :
    (announceReturned p s).permit = s.permit := by simp only [announceReturned]; split <;> simp
@[simp] theorem announceReturned_recovery (p : Port) (s : State) :
    (announceReturned p s).recovery = s.recovery := by simp only [announceReturned]; split <;> simp
@[simp] theorem announceReturned_unit_floors (p : Port) (s : State) :
    (announceReturned p s).unit.floors = s.unit.floors := by simp only [announceReturned]; split <;> simp
@[simp] theorem announceReturned_unit_target (p : Port) (s : State) :
    (announceReturned p s).unit.target = s.unit.target := by simp only [announceReturned]; split <;> simp
@[simp] theorem announceReturned_unit_envelope (p : Port) (s : State) :
    (announceReturned p s).unit.envelope = s.unit.envelope := by simp only [announceReturned]; split <;> simp
@[simp] theorem announceReturned_unit_generation (p : Port) (s : State) :
    (announceReturned p s).unit.generation = s.unit.generation := by simp only [announceReturned]; split <;> simp
@[simp] theorem announceReturned_unit_dwell (p : Port) (s : State) :
    (announceReturned p s).unit.dwell = s.unit.dwell := by simp only [announceReturned]; split <;> simp

/-! ### announce -/

@[simp] theorem announce_time (e : Element) (h k : Health) (s : State) :
    (announce e h k s).time = s.time := by unfold announce; (repeat' split) <;> simp
@[simp] theorem announce_table (e : Element) (h k : Health) (s : State) :
    (announce e h k s).table = s.table := by unfold announce; (repeat' split) <;> simp
@[simp] theorem announce_map (e : Element) (h k : Health) (s : State) :
    (announce e h k s).map = s.map := by unfold announce; (repeat' split) <;> simp
@[simp] theorem announce_lines (e : Element) (h k : Health) (s : State) :
    (announce e h k s).lines = s.lines := by unfold announce; (repeat' split) <;> simp
@[simp] theorem announce_retained (e : Element) (h k : Health) (s : State) :
    (announce e h k s).retained = s.retained := by unfold announce; (repeat' split) <;> simp
@[simp] theorem announce_osc (e : Element) (h k : Health) (s : State) :
    (announce e h k s).osc = s.osc := by unfold announce; (repeat' split) <;> simp
@[simp] theorem announce_pending (e : Element) (h k : Health) (s : State) :
    (announce e h k s).pending = s.pending := by unfold announce; (repeat' split) <;> simp
@[simp] theorem announce_permit_mismatch (e : Element) (h k : Health) (s : State) :
    (announce e h k s).permit.mismatch = s.permit.mismatch := by unfold announce; (repeat' split) <;> simp
@[simp] theorem announce_unit_target (e : Element) (h k : Health) (s : State) :
    (announce e h k s).unit.target = s.unit.target := by unfold announce; (repeat' split) <;> simp
@[simp] theorem announce_unit_envelope (e : Element) (h k : Health) (s : State) :
    (announce e h k s).unit.envelope = s.unit.envelope := by unfold announce; (repeat' split) <;> simp
@[simp] theorem announce_unit_generation (e : Element) (h k : Health) (s : State) :
    (announce e h k s).unit.generation = s.unit.generation := by unfold announce; (repeat' split) <;> simp
@[simp] theorem announce_unit_dwell (e : Element) (h k : Health) (s : State) :
    (announce e h k s).unit.dwell = s.unit.dwell := by unfold announce; (repeat' split) <;> simp
@[simp] theorem announce_recovery_primary (e : Element) (h k : Health) (s : State) :
    (announce e h k s).recovery.primary = s.recovery.primary := by unfold announce; (repeat' split) <;> simp
@[simp] theorem announce_recovery_nested (e : Element) (h k : Health) (s : State) :
    (announce e h k s).recovery.nested = s.recovery.nested := by unfold announce; (repeat' split) <;> simp
@[simp] theorem announce_receiver (e : Element) (h k : Health) (s : State) (q : Port) :
    ((announce e h k s).ports.get q).receiver = (s.ports.get q).receiver := by unfold announce; (repeat' split) <;> simp
@[simp] theorem announce_buffer (e : Element) (h k : Health) (s : State) (q : Port) :
    ((announce e h k s).ports.get q).buffer = (s.ports.get q).buffer := by unfold announce; (repeat' split) <;> simp
@[simp] theorem announce_lastError (e : Element) (h k : Health) (s : State) (q : Port) :
    ((announce e h k s).ports.get q).lastError = (s.ports.get q).lastError := by unfold announce; (repeat' split) <;> simp
@[simp] theorem announce_reply (e : Element) (h k : Health) (s : State) (q : Port) :
    ((announce e h k s).ports.get q).reply = (s.ports.get q).reply := by unfold announce; (repeat' split) <;> simp
@[simp] theorem announce_overlapped (e : Element) (h k : Health) (s : State) (q : Port) :
    ((announce e h k s).ports.get q).overlapped = (s.ports.get q).overlapped := by unfold announce; (repeat' split) <;> simp

/-! ### changeHealth -/

@[simp] theorem changeHealth_time (e : Element) (h : Health) (c : Option FaultClass) (s : State) :
    (changeHealth e h c s).time = s.time := by unfold changeHealth; (repeat' split) <;> simp
@[simp] theorem changeHealth_table (e : Element) (h : Health) (c : Option FaultClass) (s : State) :
    (changeHealth e h c s).table = s.table := by unfold changeHealth; (repeat' split) <;> simp
@[simp] theorem changeHealth_map_budget (e : Element) (h : Health) (c : Option FaultClass) (s : State) :
    (changeHealth e h c s).map.budget = s.map.budget := by unfold changeHealth; (repeat' split) <;> simp
@[simp] theorem changeHealth_lines (e : Element) (h : Health) (c : Option FaultClass) (s : State) :
    (changeHealth e h c s).lines = s.lines := by unfold changeHealth; (repeat' split) <;> simp
@[simp] theorem changeHealth_retained (e : Element) (h : Health) (c : Option FaultClass) (s : State) :
    (changeHealth e h c s).retained = s.retained := by unfold changeHealth; (repeat' split) <;> simp
@[simp] theorem changeHealth_osc (e : Element) (h : Health) (c : Option FaultClass) (s : State) :
    (changeHealth e h c s).osc = s.osc := by unfold changeHealth; (repeat' split) <;> simp
@[simp] theorem changeHealth_pending (e : Element) (h : Health) (c : Option FaultClass) (s : State) :
    (changeHealth e h c s).pending = s.pending := by unfold changeHealth; (repeat' split) <;> simp
@[simp] theorem changeHealth_permit_mismatch (e : Element) (h : Health) (c : Option FaultClass) (s : State) :
    (changeHealth e h c s).permit.mismatch = s.permit.mismatch := by unfold changeHealth; (repeat' split) <;> simp
@[simp] theorem changeHealth_recovery_nested (e : Element) (h : Health) (c : Option FaultClass) (s : State) :
    (changeHealth e h c s).recovery.nested = s.recovery.nested := by unfold changeHealth; (repeat' split) <;> simp
@[simp] theorem changeHealth_receiver (e : Element) (h : Health) (c : Option FaultClass) (s : State) (q : Port) :
    ((changeHealth e h c s).ports.get q).receiver = (s.ports.get q).receiver := by unfold changeHealth; (repeat' split) <;> simp
@[simp] theorem changeHealth_buffer (e : Element) (h : Health) (c : Option FaultClass) (s : State) (q : Port) :
    ((changeHealth e h c s).ports.get q).buffer = (s.ports.get q).buffer := by unfold changeHealth; (repeat' split) <;> simp
@[simp] theorem changeHealth_lastError (e : Element) (h : Health) (c : Option FaultClass) (s : State) (q : Port) :
    ((changeHealth e h c s).ports.get q).lastError = (s.ports.get q).lastError := by unfold changeHealth; (repeat' split) <;> simp
@[simp] theorem changeHealth_reply (e : Element) (h : Health) (c : Option FaultClass) (s : State) (q : Port) :
    ((changeHealth e h c s).ports.get q).reply = (s.ports.get q).reply := by unfold changeHealth; (repeat' split) <;> simp
@[simp] theorem changeHealth_overlapped (e : Element) (h : Health) (c : Option FaultClass) (s : State) (q : Port) :
    ((changeHealth e h c s).ports.get q).overlapped = (s.ports.get q).overlapped := by unfold changeHealth; (repeat' split) <;> simp

/-! ### confirmationClaim -/

@[simp] theorem confirmationClaim_time (e : Element) (c : FaultClass) (a : FaultAction) (retained : Bool) (s : State) :
    (confirmationClaim e c a retained s).time = s.time := by simp [confirmationClaim]
@[simp] theorem confirmationClaim_table (e : Element) (c : FaultClass) (a : FaultAction) (retained : Bool) (s : State) :
    (confirmationClaim e c a retained s).table = s.table := by simp [confirmationClaim]
@[simp] theorem confirmationClaim_map_budget (e : Element) (c : FaultClass) (a : FaultAction) (retained : Bool) (s : State) :
    (confirmationClaim e c a retained s).map.budget = s.map.budget := by simp [confirmationClaim]
@[simp] theorem confirmationClaim_lines (e : Element) (c : FaultClass) (a : FaultAction) (retained : Bool) (s : State) :
    (confirmationClaim e c a retained s).lines = s.lines := by simp [confirmationClaim]
@[simp] theorem confirmationClaim_retained (e : Element) (c : FaultClass) (a : FaultAction) (retained : Bool) (s : State) :
    (confirmationClaim e c a retained s).retained = s.retained := by simp [confirmationClaim]
@[simp] theorem confirmationClaim_osc (e : Element) (c : FaultClass) (a : FaultAction) (retained : Bool) (s : State) :
    (confirmationClaim e c a retained s).osc = s.osc := by simp [confirmationClaim]
@[simp] theorem confirmationClaim_pending (e : Element) (c : FaultClass) (a : FaultAction) (retained : Bool) (s : State) :
    (confirmationClaim e c a retained s).pending = s.pending := by simp [confirmationClaim]
@[simp] theorem confirmationClaim_permit_mismatch (e : Element) (c : FaultClass) (a : FaultAction) (retained : Bool) (s : State) :
    (confirmationClaim e c a retained s).permit.mismatch = s.permit.mismatch := by simp [confirmationClaim]
@[simp] theorem confirmationClaim_recovery_nested (e : Element) (c : FaultClass) (a : FaultAction) (retained : Bool) (s : State) :
    (confirmationClaim e c a retained s).recovery.nested = s.recovery.nested := by simp [confirmationClaim]
@[simp] theorem confirmationClaim_receiver (e : Element) (c : FaultClass) (a : FaultAction) (retained : Bool) (s : State) (q : Port) :
    ((confirmationClaim e c a retained s).ports.get q).receiver = (s.ports.get q).receiver := by simp [confirmationClaim]
@[simp] theorem confirmationClaim_buffer (e : Element) (c : FaultClass) (a : FaultAction) (retained : Bool) (s : State) (q : Port) :
    ((confirmationClaim e c a retained s).ports.get q).buffer = (s.ports.get q).buffer := by simp [confirmationClaim]
@[simp] theorem confirmationClaim_lastError (e : Element) (c : FaultClass) (a : FaultAction) (retained : Bool) (s : State) (q : Port) :
    ((confirmationClaim e c a retained s).ports.get q).lastError = (s.ports.get q).lastError := by simp [confirmationClaim]
@[simp] theorem confirmationClaim_reply (e : Element) (c : FaultClass) (a : FaultAction) (retained : Bool) (s : State) (q : Port) :
    ((confirmationClaim e c a retained s).ports.get q).reply = (s.ports.get q).reply := by simp [confirmationClaim]
@[simp] theorem confirmationClaim_overlapped (e : Element) (c : FaultClass) (a : FaultAction) (retained : Bool) (s : State) (q : Port) :
    ((confirmationClaim e c a retained s).ports.get q).overlapped = (s.ports.get q).overlapped := by simp [confirmationClaim]

/-! ### trialFailedClaim -/

@[simp] theorem trialFailedClaim_time (e : Element) (c : FaultClass) (recorded : Bool) (s : State) :
    (trialFailedClaim e c recorded s).time = s.time := by simp [trialFailedClaim]
@[simp] theorem trialFailedClaim_table (e : Element) (c : FaultClass) (recorded : Bool) (s : State) :
    (trialFailedClaim e c recorded s).table = s.table := by simp [trialFailedClaim]
@[simp] theorem trialFailedClaim_lines (e : Element) (c : FaultClass) (recorded : Bool) (s : State) :
    (trialFailedClaim e c recorded s).lines = s.lines := by simp [trialFailedClaim]
@[simp] theorem trialFailedClaim_retained (e : Element) (c : FaultClass) (recorded : Bool) (s : State) :
    (trialFailedClaim e c recorded s).retained = s.retained := by simp [trialFailedClaim]
@[simp] theorem trialFailedClaim_osc (e : Element) (c : FaultClass) (recorded : Bool) (s : State) :
    (trialFailedClaim e c recorded s).osc = s.osc := by simp [trialFailedClaim]
@[simp] theorem trialFailedClaim_pending (e : Element) (c : FaultClass) (recorded : Bool) (s : State) :
    (trialFailedClaim e c recorded s).pending = s.pending := by simp [trialFailedClaim]
@[simp] theorem trialFailedClaim_permit_mismatch (e : Element) (c : FaultClass) (recorded : Bool) (s : State) :
    (trialFailedClaim e c recorded s).permit.mismatch = s.permit.mismatch := by simp [trialFailedClaim]
@[simp] theorem trialFailedClaim_recovery_nested (e : Element) (c : FaultClass) (recorded : Bool) (s : State) :
    (trialFailedClaim e c recorded s).recovery.nested = s.recovery.nested := by simp [trialFailedClaim]
@[simp] theorem trialFailedClaim_receiver (e : Element) (c : FaultClass) (recorded : Bool) (s : State) (q : Port) :
    ((trialFailedClaim e c recorded s).ports.get q).receiver = (s.ports.get q).receiver := by simp [trialFailedClaim]
@[simp] theorem trialFailedClaim_buffer (e : Element) (c : FaultClass) (recorded : Bool) (s : State) (q : Port) :
    ((trialFailedClaim e c recorded s).ports.get q).buffer = (s.ports.get q).buffer := by simp [trialFailedClaim]
@[simp] theorem trialFailedClaim_lastError (e : Element) (c : FaultClass) (recorded : Bool) (s : State) (q : Port) :
    ((trialFailedClaim e c recorded s).ports.get q).lastError = (s.ports.get q).lastError := by simp [trialFailedClaim]
@[simp] theorem trialFailedClaim_reply (e : Element) (c : FaultClass) (recorded : Bool) (s : State) (q : Port) :
    ((trialFailedClaim e c recorded s).ports.get q).reply = (s.ports.get q).reply := by simp [trialFailedClaim]
@[simp] theorem trialFailedClaim_overlapped (e : Element) (c : FaultClass) (recorded : Bool) (s : State) (q : Port) :
    ((trialFailedClaim e c recorded s).ports.get q).overlapped = (s.ports.get q).overlapped := by simp [trialFailedClaim]

/-! ### trialStartClaim -/

@[simp] theorem trialStartClaim_time (e : Element) (s : State) :
    (trialStartClaim e s).time = s.time := by unfold trialStartClaim; (repeat' split) <;> simp
@[simp] theorem trialStartClaim_table (e : Element) (s : State) :
    (trialStartClaim e s).table = s.table := by unfold trialStartClaim; (repeat' split) <;> simp
@[simp] theorem trialStartClaim_map_budget (e : Element) (s : State) :
    (trialStartClaim e s).map.budget = s.map.budget := by unfold trialStartClaim; (repeat' split) <;> simp
@[simp] theorem trialStartClaim_lines (e : Element) (s : State) :
    (trialStartClaim e s).lines = s.lines := by unfold trialStartClaim; (repeat' split) <;> simp
@[simp] theorem trialStartClaim_retained (e : Element) (s : State) :
    (trialStartClaim e s).retained = s.retained := by unfold trialStartClaim; (repeat' split) <;> simp
@[simp] theorem trialStartClaim_osc (e : Element) (s : State) :
    (trialStartClaim e s).osc = s.osc := by unfold trialStartClaim; (repeat' split) <;> simp
@[simp] theorem trialStartClaim_pending (e : Element) (s : State) :
    (trialStartClaim e s).pending = s.pending := by unfold trialStartClaim; (repeat' split) <;> simp
@[simp] theorem trialStartClaim_permit_mismatch (e : Element) (s : State) :
    (trialStartClaim e s).permit.mismatch = s.permit.mismatch := by unfold trialStartClaim; (repeat' split) <;> simp
@[simp] theorem trialStartClaim_recovery_nested (e : Element) (s : State) :
    (trialStartClaim e s).recovery.nested = s.recovery.nested := by unfold trialStartClaim; (repeat' split) <;> simp
@[simp] theorem trialStartClaim_receiver (e : Element) (s : State) (q : Port) :
    ((trialStartClaim e s).ports.get q).receiver = (s.ports.get q).receiver := by unfold trialStartClaim; (repeat' split) <;> simp
@[simp] theorem trialStartClaim_buffer (e : Element) (s : State) (q : Port) :
    ((trialStartClaim e s).ports.get q).buffer = (s.ports.get q).buffer := by unfold trialStartClaim; (repeat' split) <;> simp
@[simp] theorem trialStartClaim_lastError (e : Element) (s : State) (q : Port) :
    ((trialStartClaim e s).ports.get q).lastError = (s.ports.get q).lastError := by unfold trialStartClaim; (repeat' split) <;> simp
@[simp] theorem trialStartClaim_reply (e : Element) (s : State) (q : Port) :
    ((trialStartClaim e s).ports.get q).reply = (s.ports.get q).reply := by unfold trialStartClaim; (repeat' split) <;> simp
@[simp] theorem trialStartClaim_overlapped (e : Element) (s : State) (q : Port) :
    ((trialStartClaim e s).ports.get q).overlapped = (s.ports.get q).overlapped := by unfold trialStartClaim; (repeat' split) <;> simp

/-! ### trialPassedClaim -/

@[simp] theorem trialPassedClaim_time (e : Element) (s : State) :
    (trialPassedClaim e s).time = s.time := by unfold trialPassedClaim; (repeat' split) <;> simp
@[simp] theorem trialPassedClaim_table (e : Element) (s : State) :
    (trialPassedClaim e s).table = s.table := by unfold trialPassedClaim; (repeat' split) <;> simp
@[simp] theorem trialPassedClaim_map_budget (e : Element) (s : State) :
    (trialPassedClaim e s).map.budget = s.map.budget := by unfold trialPassedClaim; (repeat' split) <;> simp
@[simp] theorem trialPassedClaim_lines (e : Element) (s : State) :
    (trialPassedClaim e s).lines = s.lines := by unfold trialPassedClaim; (repeat' split) <;> simp
@[simp] theorem trialPassedClaim_retained (e : Element) (s : State) :
    (trialPassedClaim e s).retained = s.retained := by unfold trialPassedClaim; (repeat' split) <;> simp
@[simp] theorem trialPassedClaim_osc (e : Element) (s : State) :
    (trialPassedClaim e s).osc = s.osc := by unfold trialPassedClaim; (repeat' split) <;> simp
@[simp] theorem trialPassedClaim_pending (e : Element) (s : State) :
    (trialPassedClaim e s).pending = s.pending := by unfold trialPassedClaim; (repeat' split) <;> simp
@[simp] theorem trialPassedClaim_permit_mismatch (e : Element) (s : State) :
    (trialPassedClaim e s).permit.mismatch = s.permit.mismatch := by unfold trialPassedClaim; (repeat' split) <;> simp
@[simp] theorem trialPassedClaim_recovery_nested (e : Element) (s : State) :
    (trialPassedClaim e s).recovery.nested = s.recovery.nested := by unfold trialPassedClaim; (repeat' split) <;> simp
@[simp] theorem trialPassedClaim_receiver (e : Element) (s : State) (q : Port) :
    ((trialPassedClaim e s).ports.get q).receiver = (s.ports.get q).receiver := by unfold trialPassedClaim; (repeat' split) <;> simp
@[simp] theorem trialPassedClaim_buffer (e : Element) (s : State) (q : Port) :
    ((trialPassedClaim e s).ports.get q).buffer = (s.ports.get q).buffer := by unfold trialPassedClaim; (repeat' split) <;> simp
@[simp] theorem trialPassedClaim_lastError (e : Element) (s : State) (q : Port) :
    ((trialPassedClaim e s).ports.get q).lastError = (s.ports.get q).lastError := by unfold trialPassedClaim; (repeat' split) <;> simp
@[simp] theorem trialPassedClaim_reply (e : Element) (s : State) (q : Port) :
    ((trialPassedClaim e s).ports.get q).reply = (s.ports.get q).reply := by unfold trialPassedClaim; (repeat' split) <;> simp
@[simp] theorem trialPassedClaim_overlapped (e : Element) (s : State) (q : Port) :
    ((trialPassedClaim e s).ports.get q).overlapped = (s.ports.get q).overlapped := by unfold trialPassedClaim; (repeat' split) <;> simp

/-! ### runEntryLockout -/

@[simp] theorem runEntryLockout_time (e : Element) (s : State) :
    (runEntryLockout e s).time = s.time := by simp only [runEntryLockout]; split <;> simp
@[simp] theorem runEntryLockout_table (e : Element) (s : State) :
    (runEntryLockout e s).table = s.table := by simp only [runEntryLockout]; split <;> simp
@[simp] theorem runEntryLockout_map_budget (e : Element) (s : State) :
    (runEntryLockout e s).map.budget = s.map.budget := by simp only [runEntryLockout]; split <;> simp
@[simp] theorem runEntryLockout_lines (e : Element) (s : State) :
    (runEntryLockout e s).lines = s.lines := by simp only [runEntryLockout]; split <;> simp
@[simp] theorem runEntryLockout_retained (e : Element) (s : State) :
    (runEntryLockout e s).retained = s.retained := by simp only [runEntryLockout]; split <;> simp
@[simp] theorem runEntryLockout_osc (e : Element) (s : State) :
    (runEntryLockout e s).osc = s.osc := by simp only [runEntryLockout]; split <;> simp
@[simp] theorem runEntryLockout_pending (e : Element) (s : State) :
    (runEntryLockout e s).pending = s.pending := by simp only [runEntryLockout]; split <;> simp
@[simp] theorem runEntryLockout_permit_mismatch (e : Element) (s : State) :
    (runEntryLockout e s).permit.mismatch = s.permit.mismatch := by simp only [runEntryLockout]; split <;> simp
@[simp] theorem runEntryLockout_recovery_nested (e : Element) (s : State) :
    (runEntryLockout e s).recovery.nested = s.recovery.nested := by simp only [runEntryLockout]; split <;> simp
@[simp] theorem runEntryLockout_receiver (e : Element) (s : State) (q : Port) :
    ((runEntryLockout e s).ports.get q).receiver = (s.ports.get q).receiver := by simp only [runEntryLockout]; split <;> simp
@[simp] theorem runEntryLockout_buffer (e : Element) (s : State) (q : Port) :
    ((runEntryLockout e s).ports.get q).buffer = (s.ports.get q).buffer := by simp only [runEntryLockout]; split <;> simp
@[simp] theorem runEntryLockout_lastError (e : Element) (s : State) (q : Port) :
    ((runEntryLockout e s).ports.get q).lastError = (s.ports.get q).lastError := by simp only [runEntryLockout]; split <;> simp
@[simp] theorem runEntryLockout_reply (e : Element) (s : State) (q : Port) :
    ((runEntryLockout e s).ports.get q).reply = (s.ports.get q).reply := by simp only [runEntryLockout]; split <;> simp
@[simp] theorem runEntryLockout_overlapped (e : Element) (s : State) (q : Port) :
    ((runEntryLockout e s).ports.get q).overlapped = (s.ports.get q).overlapped := by simp only [runEntryLockout]; split <;> simp

/-! ### placeTrial -/

@[simp] theorem placeTrial_time (slot : TrialSlot) (t : Trial) (s : State) :
    (placeTrial slot t s).time = s.time := by cases slot <;> rfl
@[simp] theorem placeTrial_table (slot : TrialSlot) (t : Trial) (s : State) :
    (placeTrial slot t s).table = s.table := by cases slot <;> rfl
@[simp] theorem placeTrial_map (slot : TrialSlot) (t : Trial) (s : State) :
    (placeTrial slot t s).map = s.map := by cases slot <;> rfl
@[simp] theorem placeTrial_lines (slot : TrialSlot) (t : Trial) (s : State) :
    (placeTrial slot t s).lines = s.lines := by cases slot <;> rfl
@[simp] theorem placeTrial_contact (slot : TrialSlot) (t : Trial) (s : State) :
    (placeTrial slot t s).contact = s.contact := by cases slot <;> rfl
@[simp] theorem placeTrial_retained (slot : TrialSlot) (t : Trial) (s : State) :
    (placeTrial slot t s).retained = s.retained := by cases slot <;> rfl
@[simp] theorem placeTrial_osc (slot : TrialSlot) (t : Trial) (s : State) :
    (placeTrial slot t s).osc = s.osc := by cases slot <;> rfl
@[simp] theorem placeTrial_pending (slot : TrialSlot) (t : Trial) (s : State) :
    (placeTrial slot t s).pending = s.pending := by cases slot <;> rfl
@[simp] theorem placeTrial_ports (slot : TrialSlot) (t : Trial) (s : State) :
    (placeTrial slot t s).ports = s.ports := by cases slot <;> rfl
@[simp] theorem placeTrial_unit (slot : TrialSlot) (t : Trial) (s : State) :
    (placeTrial slot t s).unit = s.unit := by cases slot <;> rfl
@[simp] theorem placeTrial_permit (slot : TrialSlot) (t : Trial) (s : State) :
    (placeTrial slot t s).permit = s.permit := by cases slot <;> rfl
@[simp] theorem placeTrial_recovery_ballot (slot : TrialSlot) (t : Trial) (s : State) :
    (placeTrial slot t s).recovery.ballot = s.recovery.ballot := by cases slot <;> rfl

/-! ### emptySlot -/

@[simp] theorem emptySlot_time (slot : TrialSlot) (s : State) :
    (emptySlot slot s).time = s.time := by cases slot <;> rfl
@[simp] theorem emptySlot_table (slot : TrialSlot) (s : State) :
    (emptySlot slot s).table = s.table := by cases slot <;> rfl
@[simp] theorem emptySlot_map (slot : TrialSlot) (s : State) :
    (emptySlot slot s).map = s.map := by cases slot <;> rfl
@[simp] theorem emptySlot_lines (slot : TrialSlot) (s : State) :
    (emptySlot slot s).lines = s.lines := by cases slot <;> rfl
@[simp] theorem emptySlot_contact (slot : TrialSlot) (s : State) :
    (emptySlot slot s).contact = s.contact := by cases slot <;> rfl
@[simp] theorem emptySlot_retained (slot : TrialSlot) (s : State) :
    (emptySlot slot s).retained = s.retained := by cases slot <;> rfl
@[simp] theorem emptySlot_osc (slot : TrialSlot) (s : State) :
    (emptySlot slot s).osc = s.osc := by cases slot <;> rfl
@[simp] theorem emptySlot_pending (slot : TrialSlot) (s : State) :
    (emptySlot slot s).pending = s.pending := by cases slot <;> rfl
@[simp] theorem emptySlot_ports (slot : TrialSlot) (s : State) :
    (emptySlot slot s).ports = s.ports := by cases slot <;> rfl
@[simp] theorem emptySlot_unit (slot : TrialSlot) (s : State) :
    (emptySlot slot s).unit = s.unit := by cases slot <;> rfl
@[simp] theorem emptySlot_permit (slot : TrialSlot) (s : State) :
    (emptySlot slot s).permit = s.permit := by cases slot <;> rfl
@[simp] theorem emptySlot_recovery_ballot (slot : TrialSlot) (s : State) :
    (emptySlot slot s).recovery.ballot = s.recovery.ballot := by cases slot <;> rfl

/-! ### startTrial -/

@[simp] theorem startTrial_time (slot : TrialSlot) (e : Element) (s : State) :
    (startTrial slot e s).time = s.time := by simp [startTrial]
@[simp] theorem startTrial_lines (slot : TrialSlot) (e : Element) (s : State) :
    (startTrial slot e s).lines = s.lines := by simp [startTrial]
@[simp] theorem startTrial_retained (slot : TrialSlot) (e : Element) (s : State) :
    (startTrial slot e s).retained = s.retained := by simp [startTrial]
@[simp] theorem startTrial_osc (slot : TrialSlot) (e : Element) (s : State) :
    (startTrial slot e s).osc = s.osc := by simp [startTrial]
@[simp] theorem startTrial_pending (slot : TrialSlot) (e : Element) (s : State) :
    (startTrial slot e s).pending = s.pending := by simp [startTrial]
@[simp] theorem startTrial_permit_mismatch (slot : TrialSlot) (e : Element) (s : State) :
    (startTrial slot e s).permit.mismatch = s.permit.mismatch := by simp [startTrial]
@[simp] theorem startTrial_receiver (slot : TrialSlot) (e : Element) (s : State) (q : Port) :
    ((startTrial slot e s).ports.get q).receiver = (s.ports.get q).receiver := by simp [startTrial]
@[simp] theorem startTrial_buffer (slot : TrialSlot) (e : Element) (s : State) (q : Port) :
    ((startTrial slot e s).ports.get q).buffer = (s.ports.get q).buffer := by simp [startTrial]
@[simp] theorem startTrial_lastError (slot : TrialSlot) (e : Element) (s : State) (q : Port) :
    ((startTrial slot e s).ports.get q).lastError = (s.ports.get q).lastError := by simp [startTrial]
@[simp] theorem startTrial_reply (slot : TrialSlot) (e : Element) (s : State) (q : Port) :
    ((startTrial slot e s).ports.get q).reply = (s.ports.get q).reply := by simp [startTrial]
@[simp] theorem startTrial_overlapped (slot : TrialSlot) (e : Element) (s : State) (q : Port) :
    ((startTrial slot e s).ports.get q).overlapped = (s.ports.get q).overlapped := by simp [startTrial]
@[simp] theorem startTrial_table_overflow (slot : TrialSlot) (e : Element) (s : State) :
    (startTrial slot e s).table.overflow = s.table.overflow := by simp [startTrial]
@[simp] theorem startTrial_map_budget (slot : TrialSlot) (e : Element) (s : State) :
    (startTrial slot e s).map.budget = s.map.budget := by simp [startTrial]

/-! ### failTrial -/

@[simp] theorem failTrial_time (e : Element) (c : FaultClass) (recorded : Bool) (s : State) :
    (failTrial e c recorded s).time = s.time := by simp only [failTrial]; split <;> simp
@[simp] theorem failTrial_lines (e : Element) (c : FaultClass) (recorded : Bool) (s : State) :
    (failTrial e c recorded s).lines = s.lines := by simp only [failTrial]; split <;> simp
@[simp] theorem failTrial_retained (e : Element) (c : FaultClass) (recorded : Bool) (s : State) :
    (failTrial e c recorded s).retained = s.retained := by simp only [failTrial]; split <;> simp
@[simp] theorem failTrial_osc (e : Element) (c : FaultClass) (recorded : Bool) (s : State) :
    (failTrial e c recorded s).osc = s.osc := by simp only [failTrial]; split <;> simp
@[simp] theorem failTrial_pending (e : Element) (c : FaultClass) (recorded : Bool) (s : State) :
    (failTrial e c recorded s).pending = s.pending := by simp only [failTrial]; split <;> simp
@[simp] theorem failTrial_permit_mismatch (e : Element) (c : FaultClass) (recorded : Bool) (s : State) :
    (failTrial e c recorded s).permit.mismatch = s.permit.mismatch := by simp only [failTrial]; split <;> simp
@[simp] theorem failTrial_receiver (e : Element) (c : FaultClass) (recorded : Bool) (s : State) (q : Port) :
    ((failTrial e c recorded s).ports.get q).receiver = (s.ports.get q).receiver := by simp only [failTrial]; split <;> simp
@[simp] theorem failTrial_buffer (e : Element) (c : FaultClass) (recorded : Bool) (s : State) (q : Port) :
    ((failTrial e c recorded s).ports.get q).buffer = (s.ports.get q).buffer := by simp only [failTrial]; split <;> simp
@[simp] theorem failTrial_lastError (e : Element) (c : FaultClass) (recorded : Bool) (s : State) (q : Port) :
    ((failTrial e c recorded s).ports.get q).lastError = (s.ports.get q).lastError := by simp only [failTrial]; split <;> simp
@[simp] theorem failTrial_reply (e : Element) (c : FaultClass) (recorded : Bool) (s : State) (q : Port) :
    ((failTrial e c recorded s).ports.get q).reply = (s.ports.get q).reply := by simp only [failTrial]; split <;> simp
@[simp] theorem failTrial_overlapped (e : Element) (c : FaultClass) (recorded : Bool) (s : State) (q : Port) :
    ((failTrial e c recorded s).ports.get q).overlapped = (s.ports.get q).overlapped := by simp only [failTrial]; split <;> simp
@[simp] theorem failTrial_table (e : Element) (c : FaultClass) (recorded : Bool) (s : State) :
    (failTrial e c recorded s).table = s.table := by simp only [failTrial]; split <;> simp

/-! ### passTrial -/

@[simp] theorem passTrial_time (slot : TrialSlot) (t : Trial) (s : State) :
    (passTrial slot t s).time = s.time := by simp [passTrial]
@[simp] theorem passTrial_lines (slot : TrialSlot) (t : Trial) (s : State) :
    (passTrial slot t s).lines = s.lines := by simp [passTrial]
@[simp] theorem passTrial_retained (slot : TrialSlot) (t : Trial) (s : State) :
    (passTrial slot t s).retained = s.retained := by simp [passTrial]
@[simp] theorem passTrial_osc (slot : TrialSlot) (t : Trial) (s : State) :
    (passTrial slot t s).osc = s.osc := by simp [passTrial]
@[simp] theorem passTrial_pending (slot : TrialSlot) (t : Trial) (s : State) :
    (passTrial slot t s).pending = s.pending := by simp [passTrial]
@[simp] theorem passTrial_permit_mismatch (slot : TrialSlot) (t : Trial) (s : State) :
    (passTrial slot t s).permit.mismatch = s.permit.mismatch := by simp [passTrial]
@[simp] theorem passTrial_receiver (slot : TrialSlot) (t : Trial) (s : State) (q : Port) :
    ((passTrial slot t s).ports.get q).receiver = (s.ports.get q).receiver := by simp [passTrial]
@[simp] theorem passTrial_buffer (slot : TrialSlot) (t : Trial) (s : State) (q : Port) :
    ((passTrial slot t s).ports.get q).buffer = (s.ports.get q).buffer := by simp [passTrial]
@[simp] theorem passTrial_lastError (slot : TrialSlot) (t : Trial) (s : State) (q : Port) :
    ((passTrial slot t s).ports.get q).lastError = (s.ports.get q).lastError := by simp [passTrial]
@[simp] theorem passTrial_reply (slot : TrialSlot) (t : Trial) (s : State) (q : Port) :
    ((passTrial slot t s).ports.get q).reply = (s.ports.get q).reply := by simp [passTrial]
@[simp] theorem passTrial_overlapped (slot : TrialSlot) (t : Trial) (s : State) (q : Port) :
    ((passTrial slot t s).ports.get q).overlapped = (s.ports.get q).overlapped := by simp [passTrial]
@[simp] theorem passTrial_table (slot : TrialSlot) (t : Trial) (s : State) :
    (passTrial slot t s).table = s.table := by simp [passTrial]
@[simp] theorem passTrial_map_budget (slot : TrialSlot) (t : Trial) (s : State) :
    (passTrial slot t s).map.budget = s.map.budget := by simp [passTrial]

/-! ### handOut -/

@[simp] theorem handOut_time (e : Element) (c : FaultClass) (s : State) :
    (handOut e c s).time = s.time := by simp only [handOut]; (repeat' split) <;> simp
@[simp] theorem handOut_lines (e : Element) (c : FaultClass) (s : State) :
    (handOut e c s).lines = s.lines := by simp only [handOut]; (repeat' split) <;> simp
@[simp] theorem handOut_osc (e : Element) (c : FaultClass) (s : State) :
    (handOut e c s).osc = s.osc := by simp only [handOut]; (repeat' split) <;> simp
@[simp] theorem handOut_pending (e : Element) (c : FaultClass) (s : State) :
    (handOut e c s).pending = s.pending := by simp only [handOut]; (repeat' split) <;> simp
@[simp] theorem handOut_permit_mismatch (e : Element) (c : FaultClass) (s : State) :
    (handOut e c s).permit.mismatch = s.permit.mismatch := by simp only [handOut]; (repeat' split) <;> simp
@[simp] theorem handOut_receiver (e : Element) (c : FaultClass) (s : State) (q : Port) :
    ((handOut e c s).ports.get q).receiver = (s.ports.get q).receiver := by simp only [handOut]; (repeat' split) <;> simp
@[simp] theorem handOut_buffer (e : Element) (c : FaultClass) (s : State) (q : Port) :
    ((handOut e c s).ports.get q).buffer = (s.ports.get q).buffer := by simp only [handOut]; (repeat' split) <;> simp
@[simp] theorem handOut_lastError (e : Element) (c : FaultClass) (s : State) (q : Port) :
    ((handOut e c s).ports.get q).lastError = (s.ports.get q).lastError := by simp only [handOut]; (repeat' split) <;> simp
@[simp] theorem handOut_reply (e : Element) (c : FaultClass) (s : State) (q : Port) :
    ((handOut e c s).ports.get q).reply = (s.ports.get q).reply := by simp only [handOut]; (repeat' split) <;> simp
@[simp] theorem handOut_overlapped (e : Element) (c : FaultClass) (s : State) (q : Port) :
    ((handOut e c s).ports.get q).overlapped = (s.ports.get q).overlapped := by simp only [handOut]; (repeat' split) <;> simp
@[simp] theorem handOut_table (e : Element) (c : FaultClass) (s : State) :
    (handOut e c s).table = s.table := by simp only [handOut]; (repeat' split) <;> simp

/-! ### confirmRecord -/

@[simp] theorem confirmRecord_time (e : Element) (c : FaultClass) (s : State) :
    (confirmRecord e c s).time = s.time := by simp [confirmRecord]
@[simp] theorem confirmRecord_lines (e : Element) (c : FaultClass) (s : State) :
    (confirmRecord e c s).lines = s.lines := by simp [confirmRecord]
@[simp] theorem confirmRecord_osc (e : Element) (c : FaultClass) (s : State) :
    (confirmRecord e c s).osc = s.osc := by simp [confirmRecord]
@[simp] theorem confirmRecord_pending (e : Element) (c : FaultClass) (s : State) :
    (confirmRecord e c s).pending = s.pending := by simp [confirmRecord]
@[simp] theorem confirmRecord_permit_mismatch (e : Element) (c : FaultClass) (s : State) :
    (confirmRecord e c s).permit.mismatch = s.permit.mismatch := by simp [confirmRecord]
@[simp] theorem confirmRecord_receiver (e : Element) (c : FaultClass) (s : State) (q : Port) :
    ((confirmRecord e c s).ports.get q).receiver = (s.ports.get q).receiver := by simp [confirmRecord]
@[simp] theorem confirmRecord_buffer (e : Element) (c : FaultClass) (s : State) (q : Port) :
    ((confirmRecord e c s).ports.get q).buffer = (s.ports.get q).buffer := by simp [confirmRecord]
@[simp] theorem confirmRecord_lastError (e : Element) (c : FaultClass) (s : State) (q : Port) :
    ((confirmRecord e c s).ports.get q).lastError = (s.ports.get q).lastError := by simp [confirmRecord]
@[simp] theorem confirmRecord_reply (e : Element) (c : FaultClass) (s : State) (q : Port) :
    ((confirmRecord e c s).ports.get q).reply = (s.ports.get q).reply := by simp [confirmRecord]
@[simp] theorem confirmRecord_overlapped (e : Element) (c : FaultClass) (s : State) (q : Port) :
    ((confirmRecord e c s).ports.get q).overlapped = (s.ports.get q).overlapped := by simp [confirmRecord]
@[simp] theorem confirmRecord_table_overflow (e : Element) (c : FaultClass) (s : State) :
    (confirmRecord e c s).table.overflow = s.table.overflow := by simp [confirmRecord]

/-! ### testRecord -/

@[simp] theorem testRecord_time (e : Element) (c : FaultClass) (s : State) :
    (testRecord e c s).time = s.time := by unfold testRecord; (repeat' split) <;> simp
@[simp] theorem testRecord_lines (e : Element) (c : FaultClass) (s : State) :
    (testRecord e c s).lines = s.lines := by unfold testRecord; (repeat' split) <;> simp
@[simp] theorem testRecord_osc (e : Element) (c : FaultClass) (s : State) :
    (testRecord e c s).osc = s.osc := by unfold testRecord; (repeat' split) <;> simp
@[simp] theorem testRecord_pending (e : Element) (c : FaultClass) (s : State) :
    (testRecord e c s).pending = s.pending := by unfold testRecord; (repeat' split) <;> simp
@[simp] theorem testRecord_permit_mismatch (e : Element) (c : FaultClass) (s : State) :
    (testRecord e c s).permit.mismatch = s.permit.mismatch := by unfold testRecord; (repeat' split) <;> simp
@[simp] theorem testRecord_receiver (e : Element) (c : FaultClass) (s : State) (q : Port) :
    ((testRecord e c s).ports.get q).receiver = (s.ports.get q).receiver := by unfold testRecord; (repeat' split) <;> simp
@[simp] theorem testRecord_buffer (e : Element) (c : FaultClass) (s : State) (q : Port) :
    ((testRecord e c s).ports.get q).buffer = (s.ports.get q).buffer := by unfold testRecord; (repeat' split) <;> simp
@[simp] theorem testRecord_lastError (e : Element) (c : FaultClass) (s : State) (q : Port) :
    ((testRecord e c s).ports.get q).lastError = (s.ports.get q).lastError := by unfold testRecord; (repeat' split) <;> simp
@[simp] theorem testRecord_reply (e : Element) (c : FaultClass) (s : State) (q : Port) :
    ((testRecord e c s).ports.get q).reply = (s.ports.get q).reply := by unfold testRecord; (repeat' split) <;> simp
@[simp] theorem testRecord_overlapped (e : Element) (c : FaultClass) (s : State) (q : Port) :
    ((testRecord e c s).ports.get q).overlapped = (s.ports.get q).overlapped := by unfold testRecord; (repeat' split) <;> simp
@[simp] theorem testRecord_table_overflow (e : Element) (c : FaultClass) (s : State) :
    (testRecord e c s).table.overflow = s.table.overflow := by unfold testRecord; (repeat' split) <;> simp

/-! ### appendTo -/

@[simp] theorem appendTo_time (rs : List FaultRecord) (r : FaultReport) (s : State) :
    (appendTo rs r s).time = s.time := by simp [appendTo]
@[simp] theorem appendTo_lines (rs : List FaultRecord) (r : FaultReport) (s : State) :
    (appendTo rs r s).lines = s.lines := by simp [appendTo]
@[simp] theorem appendTo_osc (rs : List FaultRecord) (r : FaultReport) (s : State) :
    (appendTo rs r s).osc = s.osc := by simp [appendTo]
@[simp] theorem appendTo_pending (rs : List FaultRecord) (r : FaultReport) (s : State) :
    (appendTo rs r s).pending = s.pending := by simp [appendTo]
@[simp] theorem appendTo_permit_mismatch (rs : List FaultRecord) (r : FaultReport) (s : State) :
    (appendTo rs r s).permit.mismatch = s.permit.mismatch := by simp [appendTo]
@[simp] theorem appendTo_receiver (rs : List FaultRecord) (r : FaultReport) (s : State) (q : Port) :
    ((appendTo rs r s).ports.get q).receiver = (s.ports.get q).receiver := by simp [appendTo]
@[simp] theorem appendTo_buffer (rs : List FaultRecord) (r : FaultReport) (s : State) (q : Port) :
    ((appendTo rs r s).ports.get q).buffer = (s.ports.get q).buffer := by simp [appendTo]
@[simp] theorem appendTo_lastError (rs : List FaultRecord) (r : FaultReport) (s : State) (q : Port) :
    ((appendTo rs r s).ports.get q).lastError = (s.ports.get q).lastError := by simp [appendTo]
@[simp] theorem appendTo_reply (rs : List FaultRecord) (r : FaultReport) (s : State) (q : Port) :
    ((appendTo rs r s).ports.get q).reply = (s.ports.get q).reply := by simp [appendTo]
@[simp] theorem appendTo_overlapped (rs : List FaultRecord) (r : FaultReport) (s : State) (q : Port) :
    ((appendTo rs r s).ports.get q).overlapped = (s.ports.get q).overlapped := by simp [appendTo]
@[simp] theorem appendTo_table_overflow (rs : List FaultRecord) (r : FaultReport) (s : State) :
    (appendTo rs r s).table.overflow = s.table.overflow := by simp [appendTo]

/-! ### leaveUnrecorded -/

@[simp] theorem leaveUnrecorded_time (r : FaultReport) (s : State) :
    (leaveUnrecorded r s).time = s.time := by simp only [leaveUnrecorded]; (repeat' split) <;> simp
@[simp] theorem leaveUnrecorded_lines (r : FaultReport) (s : State) :
    (leaveUnrecorded r s).lines = s.lines := by simp only [leaveUnrecorded]; (repeat' split) <;> simp
@[simp] theorem leaveUnrecorded_osc (r : FaultReport) (s : State) :
    (leaveUnrecorded r s).osc = s.osc := by simp only [leaveUnrecorded]; (repeat' split) <;> simp
@[simp] theorem leaveUnrecorded_pending (r : FaultReport) (s : State) :
    (leaveUnrecorded r s).pending = s.pending := by simp only [leaveUnrecorded]; (repeat' split) <;> simp
@[simp] theorem leaveUnrecorded_permit_mismatch (r : FaultReport) (s : State) :
    (leaveUnrecorded r s).permit.mismatch = s.permit.mismatch := by simp only [leaveUnrecorded]; (repeat' split) <;> simp
@[simp] theorem leaveUnrecorded_receiver (r : FaultReport) (s : State) (q : Port) :
    ((leaveUnrecorded r s).ports.get q).receiver = (s.ports.get q).receiver := by simp only [leaveUnrecorded]; (repeat' split) <;> simp
@[simp] theorem leaveUnrecorded_buffer (r : FaultReport) (s : State) (q : Port) :
    ((leaveUnrecorded r s).ports.get q).buffer = (s.ports.get q).buffer := by simp only [leaveUnrecorded]; (repeat' split) <;> simp
@[simp] theorem leaveUnrecorded_lastError (r : FaultReport) (s : State) (q : Port) :
    ((leaveUnrecorded r s).ports.get q).lastError = (s.ports.get q).lastError := by simp only [leaveUnrecorded]; (repeat' split) <;> simp
@[simp] theorem leaveUnrecorded_reply (r : FaultReport) (s : State) (q : Port) :
    ((leaveUnrecorded r s).ports.get q).reply = (s.ports.get q).reply := by simp only [leaveUnrecorded]; (repeat' split) <;> simp
@[simp] theorem leaveUnrecorded_overlapped (r : FaultReport) (s : State) (q : Port) :
    ((leaveUnrecorded r s).ports.get q).overlapped = (s.ports.get q).overlapped := by simp only [leaveUnrecorded]; (repeat' split) <;> simp
@[simp] theorem leaveUnrecorded_retained (r : FaultReport) (s : State) :
    (leaveUnrecorded r s).retained = s.retained := by simp only [leaveUnrecorded]; (repeat' split) <;> simp
@[simp] theorem leaveUnrecorded_table_records (r : FaultReport) (s : State) :
    (leaveUnrecorded r s).table.records = s.table.records := by simp only [leaveUnrecorded]; (repeat' split) <;> simp

/-! ### takeReport -/

@[simp] theorem takeReport_time (r : FaultReport) (s : State) :
    (takeReport r s).time = s.time := by simp only [takeReport]; (repeat' split) <;> simp
@[simp] theorem takeReport_lines (r : FaultReport) (s : State) :
    (takeReport r s).lines = s.lines := by simp only [takeReport]; (repeat' split) <;> simp
@[simp] theorem takeReport_osc (r : FaultReport) (s : State) :
    (takeReport r s).osc = s.osc := by simp only [takeReport]; (repeat' split) <;> simp
@[simp] theorem takeReport_pending (r : FaultReport) (s : State) :
    (takeReport r s).pending = s.pending := by simp only [takeReport]; (repeat' split) <;> simp
@[simp] theorem takeReport_permit_mismatch (r : FaultReport) (s : State) :
    (takeReport r s).permit.mismatch = s.permit.mismatch := by simp only [takeReport]; (repeat' split) <;> simp
@[simp] theorem takeReport_receiver (r : FaultReport) (s : State) (q : Port) :
    ((takeReport r s).ports.get q).receiver = (s.ports.get q).receiver := by simp only [takeReport]; (repeat' split) <;> simp
@[simp] theorem takeReport_buffer (r : FaultReport) (s : State) (q : Port) :
    ((takeReport r s).ports.get q).buffer = (s.ports.get q).buffer := by simp only [takeReport]; (repeat' split) <;> simp
@[simp] theorem takeReport_lastError (r : FaultReport) (s : State) (q : Port) :
    ((takeReport r s).ports.get q).lastError = (s.ports.get q).lastError := by simp only [takeReport]; (repeat' split) <;> simp
@[simp] theorem takeReport_reply (r : FaultReport) (s : State) (q : Port) :
    ((takeReport r s).ports.get q).reply = (s.ports.get q).reply := by simp only [takeReport]; (repeat' split) <;> simp
@[simp] theorem takeReport_overlapped (r : FaultReport) (s : State) (q : Port) :
    ((takeReport r s).ports.get q).overlapped = (s.ports.get q).overlapped := by simp only [takeReport]; (repeat' split) <;> simp

/-! ### handReport -/

@[simp] theorem handReport_time (r : FaultReport) (s : State) :
    (handReport r s).time = s.time := by unfold handReport; (repeat' split) <;> simp
@[simp] theorem handReport_lines (r : FaultReport) (s : State) :
    (handReport r s).lines = s.lines := by unfold handReport; (repeat' split) <;> simp
@[simp] theorem handReport_osc (r : FaultReport) (s : State) :
    (handReport r s).osc = s.osc := by unfold handReport; (repeat' split) <;> simp
@[simp] theorem handReport_pending (r : FaultReport) (s : State) :
    (handReport r s).pending = s.pending := by unfold handReport; (repeat' split) <;> simp
@[simp] theorem handReport_permit_mismatch (r : FaultReport) (s : State) :
    (handReport r s).permit.mismatch = s.permit.mismatch := by unfold handReport; (repeat' split) <;> simp
@[simp] theorem handReport_receiver (r : FaultReport) (s : State) (q : Port) :
    ((handReport r s).ports.get q).receiver = (s.ports.get q).receiver := by unfold handReport; (repeat' split) <;> simp
@[simp] theorem handReport_buffer (r : FaultReport) (s : State) (q : Port) :
    ((handReport r s).ports.get q).buffer = (s.ports.get q).buffer := by unfold handReport; (repeat' split) <;> simp
@[simp] theorem handReport_lastError (r : FaultReport) (s : State) (q : Port) :
    ((handReport r s).ports.get q).lastError = (s.ports.get q).lastError := by unfold handReport; (repeat' split) <;> simp
@[simp] theorem handReport_reply (r : FaultReport) (s : State) (q : Port) :
    ((handReport r s).ports.get q).reply = (s.ports.get q).reply := by unfold handReport; (repeat' split) <;> simp
@[simp] theorem handReport_overlapped (r : FaultReport) (s : State) (q : Port) :
    ((handReport r s).ports.get q).overlapped = (s.ports.get q).overlapped := by unfold handReport; (repeat' split) <;> simp

/-! ### demandSafeStop -/

@[simp] theorem demandSafeStop_time (s : State) :
    (demandSafeStop s).time = s.time := by simp only [demandSafeStop]; split <;> simp
@[simp] theorem demandSafeStop_table (s : State) :
    (demandSafeStop s).table = s.table := by simp only [demandSafeStop]; split <;> simp
@[simp] theorem demandSafeStop_map (s : State) :
    (demandSafeStop s).map = s.map := by simp only [demandSafeStop]; split <;> simp
@[simp] theorem demandSafeStop_lines (s : State) :
    (demandSafeStop s).lines = s.lines := by simp only [demandSafeStop]; split <;> simp
@[simp] theorem demandSafeStop_contact (s : State) :
    (demandSafeStop s).contact = s.contact := by simp only [demandSafeStop]; split <;> simp
@[simp] theorem demandSafeStop_retained (s : State) :
    (demandSafeStop s).retained = s.retained := by simp only [demandSafeStop]; split <;> simp
@[simp] theorem demandSafeStop_osc (s : State) :
    (demandSafeStop s).osc = s.osc := by simp only [demandSafeStop]; split <;> simp
@[simp] theorem demandSafeStop_pending (s : State) :
    (demandSafeStop s).pending = s.pending := by simp only [demandSafeStop]; split <;> simp
@[simp] theorem demandSafeStop_permit (s : State) :
    (demandSafeStop s).permit = s.permit := by simp only [demandSafeStop]; split <;> simp
@[simp] theorem demandSafeStop_recovery (s : State) :
    (demandSafeStop s).recovery = s.recovery := by simp only [demandSafeStop]; split <;> simp
@[simp] theorem demandSafeStop_unit_floors (s : State) :
    (demandSafeStop s).unit.floors = s.unit.floors := by simp only [demandSafeStop]; split <;> simp
@[simp] theorem demandSafeStop_unit_target (s : State) :
    (demandSafeStop s).unit.target = s.unit.target := by simp only [demandSafeStop]; split <;> simp
@[simp] theorem demandSafeStop_unit_dwell (s : State) :
    (demandSafeStop s).unit.dwell = s.unit.dwell := by simp only [demandSafeStop]; split <;> simp
@[simp] theorem demandSafeStop_receiver (s : State) (q : Port) :
    ((demandSafeStop s).ports.get q).receiver = (s.ports.get q).receiver := by simp only [demandSafeStop]; split <;> simp
@[simp] theorem demandSafeStop_buffer (s : State) (q : Port) :
    ((demandSafeStop s).ports.get q).buffer = (s.ports.get q).buffer := by simp only [demandSafeStop]; split <;> simp
@[simp] theorem demandSafeStop_lastError (s : State) (q : Port) :
    ((demandSafeStop s).ports.get q).lastError = (s.ports.get q).lastError := by simp only [demandSafeStop]; split <;> simp
@[simp] theorem demandSafeStop_reply (s : State) (q : Port) :
    ((demandSafeStop s).ports.get q).reply = (s.ports.get q).reply := by simp only [demandSafeStop]; split <;> simp
@[simp] theorem demandSafeStop_overlapped (s : State) (q : Port) :
    ((demandSafeStop s).ports.get q).overlapped = (s.ports.get q).overlapped := by simp only [demandSafeStop]; split <;> simp

/-! ### requestFailsafe -/

@[simp] theorem requestFailsafe_time (cause : Cause) (s : State) :
    (requestFailsafe cause s).time = s.time := by unfold requestFailsafe; (repeat' split) <;> simp
@[simp] theorem requestFailsafe_table (cause : Cause) (s : State) :
    (requestFailsafe cause s).table = s.table := by unfold requestFailsafe; (repeat' split) <;> simp
@[simp] theorem requestFailsafe_map (cause : Cause) (s : State) :
    (requestFailsafe cause s).map = s.map := by unfold requestFailsafe; (repeat' split) <;> simp
@[simp] theorem requestFailsafe_lines (cause : Cause) (s : State) :
    (requestFailsafe cause s).lines = s.lines := by unfold requestFailsafe; (repeat' split) <;> simp
@[simp] theorem requestFailsafe_contact (cause : Cause) (s : State) :
    (requestFailsafe cause s).contact = s.contact := by unfold requestFailsafe; (repeat' split) <;> simp
@[simp] theorem requestFailsafe_retained (cause : Cause) (s : State) :
    (requestFailsafe cause s).retained = s.retained := by unfold requestFailsafe; (repeat' split) <;> simp
@[simp] theorem requestFailsafe_pending (cause : Cause) (s : State) :
    (requestFailsafe cause s).pending = s.pending := by unfold requestFailsafe; (repeat' split) <;> simp
@[simp] theorem requestFailsafe_recovery (cause : Cause) (s : State) :
    (requestFailsafe cause s).recovery = s.recovery := by unfold requestFailsafe; (repeat' split) <;> simp
@[simp] theorem requestFailsafe_permit_mismatch (cause : Cause) (s : State) :
    (requestFailsafe cause s).permit.mismatch = s.permit.mismatch := by unfold requestFailsafe; (repeat' split) <;> simp
@[simp] theorem requestFailsafe_unit_floors (cause : Cause) (s : State) :
    (requestFailsafe cause s).unit.floors = s.unit.floors := by unfold requestFailsafe; (repeat' split) <;> simp
@[simp] theorem requestFailsafe_unit_target (cause : Cause) (s : State) :
    (requestFailsafe cause s).unit.target = s.unit.target := by unfold requestFailsafe; (repeat' split) <;> simp
@[simp] theorem requestFailsafe_unit_dwell (cause : Cause) (s : State) :
    (requestFailsafe cause s).unit.dwell = s.unit.dwell := by unfold requestFailsafe; (repeat' split) <;> simp
@[simp] theorem requestFailsafe_osc_image (cause : Cause) (s : State) :
    (requestFailsafe cause s).osc.image = s.osc.image := by unfold requestFailsafe; (repeat' split) <;> simp
@[simp] theorem requestFailsafe_osc_frozen (cause : Cause) (s : State) :
    (requestFailsafe cause s).osc.frozen = s.osc.frozen := by unfold requestFailsafe; (repeat' split) <;> simp
@[simp] theorem requestFailsafe_osc_started (cause : Cause) (s : State) :
    (requestFailsafe cause s).osc.started = s.osc.started := by unfold requestFailsafe; (repeat' split) <;> simp
@[simp] theorem requestFailsafe_osc_startWindow (cause : Cause) (s : State) :
    (requestFailsafe cause s).osc.startWindow = s.osc.startWindow := by unfold requestFailsafe; (repeat' split) <;> simp
@[simp] theorem requestFailsafe_osc_integrity (cause : Cause) (s : State) :
    (requestFailsafe cause s).osc.integrity = s.osc.integrity := by unfold requestFailsafe; (repeat' split) <;> simp
@[simp] theorem requestFailsafe_osc_configPort (cause : Cause) (s : State) :
    (requestFailsafe cause s).osc.configPort = s.osc.configPort := by unfold requestFailsafe; (repeat' split) <;> simp
@[simp] theorem requestFailsafe_osc_svc (cause : Cause) (s : State) :
    (requestFailsafe cause s).osc.svc = s.osc.svc := by unfold requestFailsafe; (repeat' split) <;> simp
@[simp] theorem requestFailsafe_receiver (cause : Cause) (s : State) (q : Port) :
    ((requestFailsafe cause s).ports.get q).receiver = (s.ports.get q).receiver := by unfold requestFailsafe; (repeat' split) <;> simp
@[simp] theorem requestFailsafe_buffer (cause : Cause) (s : State) (q : Port) :
    ((requestFailsafe cause s).ports.get q).buffer = (s.ports.get q).buffer := by unfold requestFailsafe; (repeat' split) <;> simp
@[simp] theorem requestFailsafe_lastError (cause : Cause) (s : State) (q : Port) :
    ((requestFailsafe cause s).ports.get q).lastError = (s.ports.get q).lastError := by unfold requestFailsafe; (repeat' split) <;> simp
@[simp] theorem requestFailsafe_reply (cause : Cause) (s : State) (q : Port) :
    ((requestFailsafe cause s).ports.get q).reply = (s.ports.get q).reply := by unfold requestFailsafe; (repeat' split) <;> simp
@[simp] theorem requestFailsafe_overlapped (cause : Cause) (s : State) (q : Port) :
    ((requestFailsafe cause s).ports.get q).overlapped = (s.ports.get q).overlapped := by unfold requestFailsafe; (repeat' split) <;> simp

/-! ### applyLockouts -/

@[simp] theorem applyLockouts_time (s : State) :
    (applyLockouts s).time = s.time := by simp [applyLockouts, allElements]
@[simp] theorem applyLockouts_table (s : State) :
    (applyLockouts s).table = s.table := by simp [applyLockouts, allElements]
@[simp] theorem applyLockouts_map_budget (s : State) :
    (applyLockouts s).map.budget = s.map.budget := by simp [applyLockouts, allElements]
@[simp] theorem applyLockouts_lines (s : State) :
    (applyLockouts s).lines = s.lines := by simp [applyLockouts, allElements]
@[simp] theorem applyLockouts_retained (s : State) :
    (applyLockouts s).retained = s.retained := by simp [applyLockouts, allElements]
@[simp] theorem applyLockouts_osc (s : State) :
    (applyLockouts s).osc = s.osc := by simp [applyLockouts, allElements]
@[simp] theorem applyLockouts_pending (s : State) :
    (applyLockouts s).pending = s.pending := by simp [applyLockouts, allElements]
@[simp] theorem applyLockouts_permit_mismatch (s : State) :
    (applyLockouts s).permit.mismatch = s.permit.mismatch := by simp [applyLockouts, allElements]
@[simp] theorem applyLockouts_recovery_nested (s : State) :
    (applyLockouts s).recovery.nested = s.recovery.nested := by simp [applyLockouts, allElements]
@[simp] theorem applyLockouts_receiver (s : State) (q : Port) :
    ((applyLockouts s).ports.get q).receiver = (s.ports.get q).receiver := by simp [applyLockouts, allElements]
@[simp] theorem applyLockouts_buffer (s : State) (q : Port) :
    ((applyLockouts s).ports.get q).buffer = (s.ports.get q).buffer := by simp [applyLockouts, allElements]
@[simp] theorem applyLockouts_lastError (s : State) (q : Port) :
    ((applyLockouts s).ports.get q).lastError = (s.ports.get q).lastError := by simp [applyLockouts, allElements]
@[simp] theorem applyLockouts_reply (s : State) (q : Port) :
    ((applyLockouts s).ports.get q).reply = (s.ports.get q).reply := by simp [applyLockouts, allElements]
@[simp] theorem applyLockouts_overlapped (s : State) (q : Port) :
    ((applyLockouts s).ports.get q).overlapped = (s.ports.get q).overlapped := by simp [applyLockouts, allElements]

/-! ### firstEnvelope -/

@[simp] theorem firstEnvelope_time (s : State) :
    (firstEnvelope s).time = s.time := by simp [firstEnvelope]
@[simp] theorem firstEnvelope_table (s : State) :
    (firstEnvelope s).table = s.table := by simp [firstEnvelope]
@[simp] theorem firstEnvelope_map (s : State) :
    (firstEnvelope s).map = s.map := by simp [firstEnvelope]
@[simp] theorem firstEnvelope_lines (s : State) :
    (firstEnvelope s).lines = s.lines := by simp [firstEnvelope]
@[simp] theorem firstEnvelope_contact (s : State) :
    (firstEnvelope s).contact = s.contact := by simp [firstEnvelope]
@[simp] theorem firstEnvelope_retained (s : State) :
    (firstEnvelope s).retained = s.retained := by simp [firstEnvelope]
@[simp] theorem firstEnvelope_osc (s : State) :
    (firstEnvelope s).osc = s.osc := by simp [firstEnvelope]
@[simp] theorem firstEnvelope_pending (s : State) :
    (firstEnvelope s).pending = s.pending := by simp [firstEnvelope]
@[simp] theorem firstEnvelope_permit_mismatch (s : State) :
    (firstEnvelope s).permit.mismatch = s.permit.mismatch := by simp [firstEnvelope]
@[simp] theorem firstEnvelope_recovery_ballot (s : State) :
    (firstEnvelope s).recovery.ballot = s.recovery.ballot := by simp [firstEnvelope]
@[simp] theorem firstEnvelope_recovery_nested (s : State) :
    (firstEnvelope s).recovery.nested = s.recovery.nested := by simp [firstEnvelope]
@[simp] theorem firstEnvelope_unit_floors (s : State) :
    (firstEnvelope s).unit.floors = s.unit.floors := by simp [firstEnvelope]
@[simp] theorem firstEnvelope_receiver (s : State) (q : Port) :
    ((firstEnvelope s).ports.get q).receiver = (s.ports.get q).receiver := by simp [firstEnvelope]
@[simp] theorem firstEnvelope_buffer (s : State) (q : Port) :
    ((firstEnvelope s).ports.get q).buffer = (s.ports.get q).buffer := by simp [firstEnvelope]
@[simp] theorem firstEnvelope_lastError (s : State) (q : Port) :
    ((firstEnvelope s).ports.get q).lastError = (s.ports.get q).lastError := by simp [firstEnvelope]
@[simp] theorem firstEnvelope_reply (s : State) (q : Port) :
    ((firstEnvelope s).ports.get q).reply = (s.ports.get q).reply := by simp [firstEnvelope]
@[simp] theorem firstEnvelope_overlapped (s : State) (q : Port) :
    ((firstEnvelope s).ports.get q).overlapped = (s.ports.get q).overlapped := by simp [firstEnvelope]

/-! ### runEntry -/

@[simp] theorem runEntry_time (s : State) :
    (runEntry s).time = s.time := by simp [runEntry, allPorts]
@[simp] theorem runEntry_table (s : State) :
    (runEntry s).table = s.table := by simp [runEntry, allPorts]
@[simp] theorem runEntry_map_budget (s : State) :
    (runEntry s).map.budget = s.map.budget := by simp [runEntry, allPorts]
@[simp] theorem runEntry_lines (s : State) :
    (runEntry s).lines = s.lines := by simp [runEntry, allPorts]
@[simp] theorem runEntry_retained (s : State) :
    (runEntry s).retained = s.retained := by simp [runEntry, allPorts]
@[simp] theorem runEntry_pending (s : State) :
    (runEntry s).pending = s.pending := by simp [runEntry, allPorts]
@[simp] theorem runEntry_permit_mismatch (s : State) :
    (runEntry s).permit.mismatch = s.permit.mismatch := by simp [runEntry, allPorts]
@[simp] theorem runEntry_recovery_nested (s : State) :
    (runEntry s).recovery.nested = s.recovery.nested := by simp [runEntry, allPorts]
@[simp] theorem runEntry_osc_image (s : State) :
    (runEntry s).osc.image = s.osc.image := by simp [runEntry, allPorts]
@[simp] theorem runEntry_osc_frozen (s : State) :
    (runEntry s).osc.frozen = s.osc.frozen := by simp [runEntry, allPorts]
@[simp] theorem runEntry_osc_started (s : State) :
    (runEntry s).osc.started = s.osc.started := by simp [runEntry, allPorts]
@[simp] theorem runEntry_osc_integrity (s : State) :
    (runEntry s).osc.integrity = s.osc.integrity := by simp [runEntry, allPorts]
@[simp] theorem runEntry_osc_configPort (s : State) :
    (runEntry s).osc.configPort = s.osc.configPort := by simp [runEntry, allPorts]
@[simp] theorem runEntry_osc_arm (s : State) :
    (runEntry s).osc.arm = s.osc.arm := by simp [runEntry, allPorts]
@[simp] theorem runEntry_osc_svc (s : State) :
    (runEntry s).osc.svc = s.osc.svc := by simp [runEntry, allPorts]
@[simp] theorem runEntry_osc_cause (s : State) :
    (runEntry s).osc.cause = s.osc.cause := by simp [runEntry, allPorts]
@[simp] theorem runEntry_receiver (s : State) (q : Port) :
    ((runEntry s).ports.get q).receiver = (s.ports.get q).receiver := by simp [runEntry, allPorts]
@[simp] theorem runEntry_buffer (s : State) (q : Port) :
    ((runEntry s).ports.get q).buffer = (s.ports.get q).buffer := by simp [runEntry, allPorts]
@[simp] theorem runEntry_lastError (s : State) (q : Port) :
    ((runEntry s).ports.get q).lastError = (s.ports.get q).lastError := by simp [runEntry, allPorts]
@[simp] theorem runEntry_reply (s : State) (q : Port) :
    ((runEntry s).ports.get q).reply = (s.ports.get q).reply := by simp [runEntry, allPorts]
@[simp] theorem runEntry_overlapped (s : State) (q : Port) :
    ((runEntry s).ports.get q).overlapped = (s.ports.get q).overlapped := by simp [runEntry, allPorts]

/-! ### startVoteReports -/

@[simp] theorem startVoteReports_time (s : State) :
    (startVoteReports s).time = s.time := by exact foldl_frame _ (fun t => t.time) (fun p t => by simp) _ s
@[simp] theorem startVoteReports_lines (s : State) :
    (startVoteReports s).lines = s.lines := by exact foldl_frame _ (fun t => t.lines) (fun p t => by simp) _ s
@[simp] theorem startVoteReports_osc (s : State) :
    (startVoteReports s).osc = s.osc := by exact foldl_frame _ (fun t => t.osc) (fun p t => by simp) _ s
@[simp] theorem startVoteReports_pending (s : State) :
    (startVoteReports s).pending = s.pending := by exact foldl_frame _ (fun t => t.pending) (fun p t => by simp) _ s
@[simp] theorem startVoteReports_permit_mismatch (s : State) :
    (startVoteReports s).permit.mismatch = s.permit.mismatch := by exact foldl_frame _ (fun t => t.permit.mismatch) (fun p t => by simp) _ s
@[simp] theorem startVoteReports_receiver (s : State) (q : Port) :
    ((startVoteReports s).ports.get q).receiver = (s.ports.get q).receiver := by exact foldl_frame _ (fun t => (t.ports.get q).receiver) (fun p t => by simp) _ s
@[simp] theorem startVoteReports_buffer (s : State) (q : Port) :
    ((startVoteReports s).ports.get q).buffer = (s.ports.get q).buffer := by exact foldl_frame _ (fun t => (t.ports.get q).buffer) (fun p t => by simp) _ s
@[simp] theorem startVoteReports_lastError (s : State) (q : Port) :
    ((startVoteReports s).ports.get q).lastError = (s.ports.get q).lastError := by exact foldl_frame _ (fun t => (t.ports.get q).lastError) (fun p t => by simp) _ s
@[simp] theorem startVoteReports_reply (s : State) (q : Port) :
    ((startVoteReports s).ports.get q).reply = (s.ports.get q).reply := by exact foldl_frame _ (fun t => (t.ports.get q).reply) (fun p t => by simp) _ s
@[simp] theorem startVoteReports_overlapped (s : State) (q : Port) :
    ((startVoteReports s).ports.get q).overlapped = (s.ports.get q).overlapped := by exact foldl_frame _ (fun t => (t.ports.get q).overlapped) (fun p t => by simp) _ s

/-! ### disarmFrom -/

@[simp] theorem disarmFrom_time (p : Port) (s : State) :
    (disarmFrom p s).time = s.time := by unfold disarmFrom; (repeat' split) <;> simp
@[simp] theorem disarmFrom_ports (p : Port) (s : State) :
    (disarmFrom p s).ports = s.ports := by unfold disarmFrom; (repeat' split) <;> simp
@[simp] theorem disarmFrom_table (p : Port) (s : State) :
    (disarmFrom p s).table = s.table := by unfold disarmFrom; (repeat' split) <;> simp
@[simp] theorem disarmFrom_map (p : Port) (s : State) :
    (disarmFrom p s).map = s.map := by unfold disarmFrom; (repeat' split) <;> simp
@[simp] theorem disarmFrom_lines (p : Port) (s : State) :
    (disarmFrom p s).lines = s.lines := by unfold disarmFrom; (repeat' split) <;> simp
@[simp] theorem disarmFrom_contact (p : Port) (s : State) :
    (disarmFrom p s).contact = s.contact := by unfold disarmFrom; (repeat' split) <;> simp
@[simp] theorem disarmFrom_unit (p : Port) (s : State) :
    (disarmFrom p s).unit = s.unit := by unfold disarmFrom; (repeat' split) <;> simp
@[simp] theorem disarmFrom_permit (p : Port) (s : State) :
    (disarmFrom p s).permit = s.permit := by unfold disarmFrom; (repeat' split) <;> simp
@[simp] theorem disarmFrom_recovery (p : Port) (s : State) :
    (disarmFrom p s).recovery = s.recovery := by unfold disarmFrom; (repeat' split) <;> simp
@[simp] theorem disarmFrom_retained (p : Port) (s : State) :
    (disarmFrom p s).retained = s.retained := by unfold disarmFrom; (repeat' split) <;> simp
@[simp] theorem disarmFrom_pending (p : Port) (s : State) :
    (disarmFrom p s).pending = s.pending := by unfold disarmFrom; (repeat' split) <;> simp
@[simp] theorem disarmFrom_osc_part (p : Port) (s : State) :
    (disarmFrom p s).osc.part = s.osc.part := by unfold disarmFrom; (repeat' split) <;> simp
@[simp] theorem disarmFrom_osc_image (p : Port) (s : State) :
    (disarmFrom p s).osc.image = s.osc.image := by unfold disarmFrom; (repeat' split) <;> simp
@[simp] theorem disarmFrom_osc_frozen (p : Port) (s : State) :
    (disarmFrom p s).osc.frozen = s.osc.frozen := by unfold disarmFrom; (repeat' split) <;> simp
@[simp] theorem disarmFrom_osc_started (p : Port) (s : State) :
    (disarmFrom p s).osc.started = s.osc.started := by unfold disarmFrom; (repeat' split) <;> simp
@[simp] theorem disarmFrom_osc_startWindow (p : Port) (s : State) :
    (disarmFrom p s).osc.startWindow = s.osc.startWindow := by unfold disarmFrom; (repeat' split) <;> simp
@[simp] theorem disarmFrom_osc_integrity (p : Port) (s : State) :
    (disarmFrom p s).osc.integrity = s.osc.integrity := by unfold disarmFrom; (repeat' split) <;> simp
@[simp] theorem disarmFrom_osc_configPort (p : Port) (s : State) :
    (disarmFrom p s).osc.configPort = s.osc.configPort := by unfold disarmFrom; (repeat' split) <;> simp
@[simp] theorem disarmFrom_osc_svc (p : Port) (s : State) :
    (disarmFrom p s).osc.svc = s.osc.svc := by unfold disarmFrom; (repeat' split) <;> simp
@[simp] theorem disarmFrom_osc_cause (p : Port) (s : State) :
    (disarmFrom p s).osc.cause = s.osc.cause := by unfold disarmFrom; (repeat' split) <;> simp

/-! ### discard -/

@[simp] theorem discard_time (p : Port) (k : LinkError) (s : State) :
    (discard p k s).time = s.time := by simp [discard]
@[simp] theorem discard_lines (p : Port) (k : LinkError) (s : State) :
    (discard p k s).lines = s.lines := by simp [discard]
@[simp] theorem discard_pending (p : Port) (k : LinkError) (s : State) :
    (discard p k s).pending = s.pending := by simp [discard]
@[simp] theorem discard_permit_mismatch (p : Port) (k : LinkError) (s : State) :
    (discard p k s).permit.mismatch = s.permit.mismatch := by simp [discard]
@[simp] theorem discard_osc_part (p : Port) (k : LinkError) (s : State) :
    (discard p k s).osc.part = s.osc.part := by simp [discard]
@[simp] theorem discard_osc_image (p : Port) (k : LinkError) (s : State) :
    (discard p k s).osc.image = s.osc.image := by simp [discard]
@[simp] theorem discard_osc_frozen (p : Port) (k : LinkError) (s : State) :
    (discard p k s).osc.frozen = s.osc.frozen := by simp [discard]
@[simp] theorem discard_osc_started (p : Port) (k : LinkError) (s : State) :
    (discard p k s).osc.started = s.osc.started := by simp [discard]
@[simp] theorem discard_osc_startWindow (p : Port) (k : LinkError) (s : State) :
    (discard p k s).osc.startWindow = s.osc.startWindow := by simp [discard]
@[simp] theorem discard_osc_integrity (p : Port) (k : LinkError) (s : State) :
    (discard p k s).osc.integrity = s.osc.integrity := by simp [discard]
@[simp] theorem discard_osc_configPort (p : Port) (k : LinkError) (s : State) :
    (discard p k s).osc.configPort = s.osc.configPort := by simp [discard]
@[simp] theorem discard_osc_svc (p : Port) (k : LinkError) (s : State) :
    (discard p k s).osc.svc = s.osc.svc := by simp [discard]
@[simp] theorem discard_osc_cause (p : Port) (k : LinkError) (s : State) :
    (discard p k s).osc.cause = s.osc.cause := by simp [discard]

/-! ### overlapByte -/

@[simp] theorem overlapByte_time (p : Port) (s : State) :
    (overlapByte p s).time = s.time := by unfold overlapByte; (repeat' split) <;> simp
@[simp] theorem overlapByte_lines (p : Port) (s : State) :
    (overlapByte p s).lines = s.lines := by unfold overlapByte; (repeat' split) <;> simp
@[simp] theorem overlapByte_pending (p : Port) (s : State) :
    (overlapByte p s).pending = s.pending := by unfold overlapByte; (repeat' split) <;> simp
@[simp] theorem overlapByte_permit_mismatch (p : Port) (s : State) :
    (overlapByte p s).permit.mismatch = s.permit.mismatch := by unfold overlapByte; (repeat' split) <;> simp
@[simp] theorem overlapByte_osc_part (p : Port) (s : State) :
    (overlapByte p s).osc.part = s.osc.part := by unfold overlapByte; (repeat' split) <;> simp
@[simp] theorem overlapByte_osc_image (p : Port) (s : State) :
    (overlapByte p s).osc.image = s.osc.image := by unfold overlapByte; (repeat' split) <;> simp
@[simp] theorem overlapByte_osc_frozen (p : Port) (s : State) :
    (overlapByte p s).osc.frozen = s.osc.frozen := by unfold overlapByte; (repeat' split) <;> simp
@[simp] theorem overlapByte_osc_started (p : Port) (s : State) :
    (overlapByte p s).osc.started = s.osc.started := by unfold overlapByte; (repeat' split) <;> simp
@[simp] theorem overlapByte_osc_startWindow (p : Port) (s : State) :
    (overlapByte p s).osc.startWindow = s.osc.startWindow := by unfold overlapByte; (repeat' split) <;> simp
@[simp] theorem overlapByte_osc_integrity (p : Port) (s : State) :
    (overlapByte p s).osc.integrity = s.osc.integrity := by unfold overlapByte; (repeat' split) <;> simp
@[simp] theorem overlapByte_osc_configPort (p : Port) (s : State) :
    (overlapByte p s).osc.configPort = s.osc.configPort := by unfold overlapByte; (repeat' split) <;> simp
@[simp] theorem overlapByte_osc_svc (p : Port) (s : State) :
    (overlapByte p s).osc.svc = s.osc.svc := by unfold overlapByte; (repeat' split) <;> simp
@[simp] theorem overlapByte_osc_cause (p : Port) (s : State) :
    (overlapByte p s).osc.cause = s.osc.cause := by unfold overlapByte; (repeat' split) <;> simp

end Sys2Proof.Machine
end

