-- ==== Sys2Proof/Laws/Requests.lean ====
section
/-! SUPPORT. Everything that the taking of a request can do, once for each way in which it can go: held in reset, on a
port that is replying, answered by the link port, or handed to its owning block. -/

namespace Sys2Proof.Machine

theorem storeFrame_eq_framed (p : Port) (code : Byte) (payload : List Byte) (s : State) :
    storeFrame p code payload s = framed p code payload s := rfl

theorem disarmFrom_framed (p : Port) (code : Byte) (payload : List Byte) (s : State) :
    disarmFrom p (framed p code payload s) = received p code payload s := by
  unfold disarmFrom received
  by_cases h : p = s.osc.configPort
  · have : p = (framed p code payload s).osc.configPort := h
    rw [if_pos this]
    simp [h]
  · have : ¬p = (framed p code payload s).osc.configPort := h
    rw [if_neg this]
    simp [h]
    rfl

/-- The reply that a block's answer makes is the one that `Answered` describes. -/
theorem answered_sendReply (p : Port) (code : Byte) (t : Taken) :
    Answered p code t.status t.payload t.state (sendReply p code t) := rfl

theorem lengthAllowed_imp_codeKnown {code : Byte} {n : Nat} (h : lengthAllowed code n = true) : codeKnown code = true := by
  unfold lengthAllowed at h
  unfold codeKnown
  split at h
  · simp_all
  · cases h

theorem takeRequest_of_held {p : Port} {code : Byte} {payload : List Byte} {disarms : Bool} {act : State → Taken}
    {s : State} (h : s.time.held = true) : takeRequest p code payload disarms act s = s := by
  simp [takeRequest, h]

theorem takeRequest_of_replying {p : Port} {code : Byte} {payload : List Byte} {disarms : Bool} {act : State → Taken}
    {s : State} (h : s.time.held = false) (hr : (s.ports.get p).receiver = .replying) :
    takeRequest p code payload disarms act s = overlapByte p s := by
  simp [takeRequest, h, hr]

/-- A request whose code and length Table 11.5 allows is handed to its owning block, and the block's answer is sent. -/
theorem takeRequest_of_listens {p : Port} {code : Byte} {payload : List Byte} {act : State → Taken} {s : State}
    (h : Listens p s) (hl : payload.length ≤ 24) (ha : lengthAllowed code payload.length = true) :
    takeRequest p code payload true act s = sendReply p code (act (received p code payload s)) := by
  obtain ⟨h1, h2⟩ := h
  have hk := lengthAllowed_imp_codeKnown ha
  have hm : ¬maxPayload < payload.length := by unfold maxPayload; omega
  simp [takeRequest, h1, h2, hm, hk, ha, storeFrame_eq_framed, disarmFrom_framed]

/-- SERVICE_ARM and SERVICE_CLEAR meet their owning block with the service arm as it was. -/
theorem takeRequest_of_listens_service {p : Port} {code : Byte} {payload : List Byte} {act : State → Taken} {s : State}
    (h : Listens p s) (hl : payload.length ≤ 24) (ha : lengthAllowed code payload.length = true) :
    takeRequest p code payload false act s = sendReply p code (act (framed p code payload s)) := by
  obtain ⟨h1, h2⟩ := h
  have hk := lengthAllowed_imp_codeKnown ha
  have hm : ¬maxPayload < payload.length := by unfold maxPayload; omega
  simp [takeRequest, h1, h2, hm, hk, ha, storeFrame_eq_framed]

/-- The link port itself answers UNKNOWN to a code that is not in Table 11.5. -/
theorem takeRequest_of_unknown {p : Port} {code : Byte} {payload : List Byte} {disarms : Bool} {act : State → Taken}
    {s : State} (h : Listens p s) (hl : payload.length ≤ 24) (hk : codeKnown code = false) :
    takeRequest p code payload disarms act s = sendReply p code (refuse .unknown (received p code payload s)) := by
  obtain ⟨h1, h2⟩ := h
  have hm : ¬maxPayload < payload.length := by unfold maxPayload; omega
  simp [takeRequest, h1, h2, hm, hk, storeFrame_eq_framed, disarmFrom_framed]

/-- The link port itself answers RANGE to a length that Table 11.5 does not allow for a known code. -/
theorem takeRequest_of_bad_length {p : Port} {code : Byte} {payload : List Byte} {disarms : Bool} {act : State → Taken}
    {s : State} (h : Listens p s) (hl : payload.length ≤ 24) (hk : codeKnown code = true)
    (ha : lengthAllowed code payload.length = false) :
    takeRequest p code payload disarms act s = sendReply p code (refuse .range (received p code payload s)) := by
  obtain ⟨h1, h2⟩ := h
  have hm : ¬maxPayload < payload.length := by unfold maxPayload; omega
  simp [takeRequest, h1, h2, hm, hk, ha, storeFrame_eq_framed, disarmFrom_framed]

end Sys2Proof.Machine
end

