-- ==== Sys2Proof/Laws/Operations.lean ====
section
/-! SUPPORT. What the smaller shared operations do, each said once: supervision, the output update, the closing of a
ballot, a discard, the slots of trials, the refusal and the acceptance of a request. -/

namespace Sys2Proof.Machine

theorem isRunning_iff (s : State) : isRunning s = true ↔ Running s := by
  unfold isRunning Running
  cases s.osc.part <;> simp

theorem notRunning_of_running {s : State} (h : Running s) : notRunning s = none := by
  rcases h with h | h <;> simp [notRunning, h]

@[simp] theorem portInService_received (p q : Port) (code : Byte) (payload : List Byte) (s : State) :
    portInService (received p code payload s) q = portInService s q := rfl

theorem elementOf_elementCode (e : Element) : elementOf (BitVec.ofNat 8 (elementCode e)) = some e := by cases e <;> rfl

theorem elementOf_of_lt {b : Byte} (h : 10 < b.toNat) : elementOf b = none := by
  simp [elementOf, allElements]
  omega

theorem profileOf_profileRank (f : ProfileId) : profileOf (BitVec.ofNat 8 (profileRank f)) = some f := by cases f <;> rfl

theorem profileOf_of_lt {b : Byte} (h : 7 < b.toNat) : profileOf b = none := by
  simp [profileOf, allProfiles]
  omega

theorem reportableClassOf_classCode {c : FaultClass} (h : classCode c ≤ 4) :
    reportableClassOf (BitVec.ofNat 8 (classCode c)) = some c := by
  cases c <;> first | rfl | simp [classCode] at h

theorem reportableClassOf_of_lt {b : Byte} (h : 4 < b.toNat) : reportableClassOf b = none := by
  simp [reportableClassOf]
  omega

/-- Every element stands in the list of the eleven. -/
theorem mem_allElements (e : Element) : e ∈ allElements := by cases e <;> simp [allElements]

/-- Every port stands in the list of the four. -/
theorem mem_allPorts (p : Port) : p ∈ allPorts := by cases p <;> simp [allPorts]

/-- Supervision of a port that is to be supervised loads its full deadline; any other is left as it is (R57). -/
theorem supervise_contact (p : Port) (s : State) :
    (supervise p s).contact =
      if checkInValue s.osc.image p ≠ 0 ∧ s.contact.get p = none ∧ portInService s p = true then
        s.contact.set p (some (checkInValue s.osc.image p))
      else s.contact := by
  unfold supervise
  split <;> rfl

/-- After an output update the outputs stand at the levels of Table 6.1 (R103). -/
theorem updateOutputs_agree (s : State) : OutputsAgree (updateOutputs s) := rfl

/-- The closing of an open ballot with an outcome that is not a pass (R127). -/
theorem closeBallot_outcome {s : State} {b : Ballot} (h : s.recovery.ballot = some b) (o : TrialOutcome) :
    closeBallot (some o) s = closed b.element o s := by
  simp only [closeBallot, h]
  rfl

/-- The closing of a ballot that passes (R123). -/
theorem closeBallot_pass {s : State} {b : Ballot} (h : s.recovery.ballot = some b) : closeBallot none s = passed s := by
  simp only [closeBallot, h]
  rfl

/-- With no ballot open there is none to close. -/
theorem closeBallot_empty {s : State} (h : s.recovery.ballot = none) (o : Option TrialOutcome) : closeBallot o s = s := by
  simp [closeBallot, h]

/-- The service arm after the events that end it, when they come from a port (R156). -/
theorem disarmFrom_arm (p : Port) (s : State) :
    (disarmFrom p s).osc.arm = (s.osc.arm && decide (p ≠ s.osc.configPort)) := by
  unfold disarmFrom
  by_cases h : p = s.osc.configPort <;> simp [h]

/-- What each slot holds once a slot has been emptied: a NESTED trial behind an emptied PRIMARY is promoted (R143). -/
theorem emptySlot_recovery (slot : TrialSlot) (s : State) :
    (emptySlot slot s).recovery.primary = (if slot = .primary then s.recovery.nested else s.recovery.primary) ∧
    (emptySlot slot s).recovery.nested = none := by
  cases slot <;> exact ⟨rfl, rfl⟩

/-- In FAILSAFE a FAILSAFE request has no effect (R108). -/
theorem requestFailsafe_of_failsafe {s : State} (h : s.osc.part = .failsafe) (cause : Cause) :
    requestFailsafe cause s = s := if_pos h

/-- A FAILSAFE request leaves the part in FAILSAFE (R108, R110). -/
theorem requestFailsafe_part (cause : Cause) (s : State) : (requestFailsafe cause s).osc.part = .failsafe := by
  unfold requestFailsafe
  split
  · assumption
  · by_cases h : s.unit.envelope = safeStop <;>
      simp [updateOutputs, demandSafeStop, postEnvelope, mapNotices, clearLatches, enterFailsafe, h]

/-- The mismatch counters after a sample, each by its own comparison (R105, R106). -/
@[simp] theorem countMismatches_mismatch (v : Readback) (s : State) :
    (countMismatches v s).permit.mismatch =
      { front := mismatchAfter s.permit.mismatch.front (v.frb == s.permit.outputs.frontEn)
        rear := mismatchAfter s.permit.mismatch.rear (v.rrb == s.permit.outputs.rearEn) } := rfl

/-- A readback sample counts both comparisons, and makes one FAILSAFE request that counts: of a permit whose counter it
brings to 3, or none (R106, R108). -/
theorem sampleReadback_cases (first : DrivePort) (v : Readback) (s : State) :
    sampleReadback first v s = countMismatches v s ∨
    ∃ d, thirdMismatch d v s = true ∧
      sampleReadback first v s = requestFailsafe (readbackCause d) (countMismatches v s) := by
  unfold sampleReadback requestIf
  cases h : thirdMismatch first v s <;> cases g : thirdMismatch (otherDrive first) v s
  · exact .inl rfl
  · exact .inr ⟨_, g, rfl⟩
  · exact .inr ⟨_, h, rfl⟩
  · exact .inr ⟨_, h, requestFailsafe_of_failsafe (requestFailsafe_part _ _) _⟩

/-- A START in STARTING is refused once the image's digest is no longer the frozen one (R168). -/
theorem start_of_corrupted {s : State} (p : Port) (named : Half) (hp : s.osc.part = .starting)
    (h : s.osc.frozen ≠ some (digest s.osc.image)) : start p named s = refuse .digestMismatch s := by
  simp [start, imageCorrupted, hp, h]

/-- What the evaluation of the PRIMARY trial leaves in its slot (R138). -/
theorem evaluatePrimary_primary (s : State) :
    (evaluatePrimary s).recovery.primary =
      s.recovery.primary.map (evaluatedTrial s.recovery.nested s.unit.envelope) := by
  unfold evaluatePrimary
  cases hp : s.recovery.primary with
  | none => simp [hp]
  | some x =>
    obtain ⟨e, st, a, b, c⟩ := x
    cases st <;> cases hs : suspensionHolds (elementGroup e) s.unit.envelope <;>
      cases hn : s.recovery.nested <;> simp [evaluatedTrial, postTrial, mapNotices, hp, hs, hn]

/-- The notices that the evaluation of the PRIMARY trial leaves on a port (R138, R144). -/
theorem evaluatePrimary_notices (s : State) (p : Port) :
    ((evaluatePrimary s).ports.get p).notices =
      { (s.ports.get p).notices with
        trial := evaluationNotice s.recovery.primary (evaluatePrimary s).recovery.primary
          (s.ports.get p).notices.trial } := by
  rw [evaluatePrimary_primary]
  unfold evaluatePrimary
  cases hp : s.recovery.primary with
  | none => simp [evaluationNotice]
  | some x =>
    obtain ⟨e, st, a, b, c⟩ := x
    cases st <;> cases hs : suspensionHolds (elementGroup e) s.unit.envelope <;>
      cases hn : s.recovery.nested <;> cases p <;>
      simp [evaluationNotice, evaluatedTrial, postTrial, mapNotices, hs, hn, PerPort.map, PerPort.get]

/-- A request that its owning block refuses. -/
theorem refused_of_act {i : Instr} {p : Port} {code : Byte} {payload : List Byte} {st : Status} {s : State}
    {act : State → Taken} (hL : Listens p s) (hx : exec i s = .next (takeRequest p code payload true act s))
    (hp : requestPort i = some p) (hq : requestOf i = some (code, payload)) (hl : payload.length ≤ 24)
    (ha : lengthAllowed code payload.length = true)
    (h : act (received p code payload s) = refuse st (received p code payload s)) : Refused i st s := by
  refine ⟨p, code, payload, _, hp, hq, hx, ?_⟩
  rw [takeRequest_of_listens hL hl ha, h]
  exact answered_sendReply _ _ _

/-- A request that its owning block answers. -/
theorem answered_of_act {i : Instr} {p : Port} {code : Byte} {payload b : List Byte} {st : Status} {s left : State}
    {act : State → Taken} (hL : Listens p s) (hx : exec i s = .next (takeRequest p code payload true act s))
    (hl : payload.length ≤ 24) (ha : lengthAllowed code payload.length = true)
    (h : act (received p code payload s) = { state := left, status := st, payload := b }) :
    ∃ t, exec i s = .next t ∧ Answered p code st b left t := by
  refine ⟨_, hx, ?_⟩
  rw [takeRequest_of_listens hL hl ha, h]
  exact answered_sendReply _ _ _

end Sys2Proof.Machine
end

