-- ==== Sys2Proof/Laws/PerInstr.lean ====
section
/-! SUPPORT. Statements about every command as syntax, one lemma per constructor of Instr. RequestForm: a command names a
port that it is sent over exactly when it has a request frame, and a well-formed one's payload fits into a frame. -/

namespace Sys2Proof.Laws.RequestForm

/-- A command is sent over a port exactly when it has a code and a payload, and the payload of a well-formed one has at
most 24 bytes (R174, R180). -/
def Statement (i : Instr) : Prop :=
  ((Machine.requestPort i).isSome = true ↔ (Machine.requestOf i).isSome = true) ∧
  (i.wellFormed = true → ∀ code payload, Machine.requestOf i = some (code, payload) → payload.length ≤ 24)

/-- The statement of a command whose payload is the one given. -/
theorem of_payload {i : Instr} {p : Port} {code : Byte} {payload : List Byte} (hp : Machine.requestPort i = some p)
    (hq : Machine.requestOf i = some (code, payload)) (h : i.wellFormed = true → payload.length ≤ 24) : Statement i := by
  refine ⟨by simp [hp, hq], fun hw c b hb => ?_⟩
  rw [hq] at hb
  obtain ⟨-, rfl⟩ := Prod.mk.inj (Option.some.inj hb)
  exact h hw

/-- The statement of a command that is no request. -/
theorem of_none {i : Instr} (hp : Machine.requestPort i = none) (hq : Machine.requestOf i = none) : Statement i :=
  ⟨by simp [hp, hq], fun _ _ _ h => by rw [hq] at h; cases h⟩

theorem readStatus (p : Port) (page : Byte) : Statement (.readStatus p page) := of_payload rfl rfl fun _ => by simp

theorem readEnvelope (p : Port) : Statement (.readEnvelope p) := of_payload rfl rfl fun _ => by simp

theorem readElement (p : Port) (element : Byte) : Statement (.readElement p element) :=
  of_payload rfl rfl fun _ => by simp

theorem readFault (p : Port) (position : Byte) : Statement (.readFault p position) :=
  of_payload rfl rfl fun _ => by simp

theorem readRetained (p : Port) (element : Byte) : Statement (.readRetained p element) :=
  of_payload rfl rfl fun _ => by simp

theorem readNotice (p : Port) : Statement (.readNotice p) := of_payload rfl rfl fun _ => by simp

theorem readConfig (p : Port) (sect index : Byte) : Statement (.readConfig p sect index) :=
  of_payload rfl rfl fun _ => by simp

theorem checkIn (p : Port) : Statement (.checkIn p) := of_payload rfl rfl fun _ => by simp

theorem report (p : Port) (element cls : Byte) (detail : Option Half) : Statement (.report p element cls detail) := by
  cases detail with
  | none => exact of_payload rfl rfl fun _ => by simp
  | some d => exact of_payload rfl rfl fun _ => by simp [Machine.halfBytes]

theorem setFloor (p : Port) (profile : Byte) : Statement (.setFloor p profile) := of_payload rfl rfl fun _ => by simp

theorem adopt (p : Port) (generation : Half) : Statement (.adopt p generation) :=
  of_payload rfl rfl fun _ => by simp [Machine.halfBytes]

theorem release (p : Port) (element : Byte) : Statement (.release p element) := of_payload rfl rfl fun _ => by simp

theorem consent (p : Port) (element : Byte) : Statement (.consent p element) := of_payload rfl rfl fun _ => by simp

theorem veto (p : Port) (element : Byte) : Statement (.veto p element) := of_payload rfl rfl fun _ => by simp

theorem start (p : Port) (digest : Half) : Statement (.start p digest) :=
  of_payload rfl rfl fun _ => by simp [Machine.halfBytes]

theorem writeConfig (p : Port) (sect index : Byte) (entry : List Byte) : Statement (.writeConfig p sect index entry) :=
  of_payload rfl rfl fun h => by
    simp [Instr.wellFormed, Machine.lengthAllowed, Machine.codeLengths] at h
    simp
    omega

theorem serviceArm (p : Port) : Statement (.serviceArm p) := of_payload rfl rfl fun _ => by simp

theorem serviceClear (p : Port) (which : Byte) : Statement (.serviceClear p which) :=
  of_payload rfl rfl fun _ => by simp

theorem unknownRequest (p : Port) (code : Byte) (payload : List Byte) : Statement (.unknownRequest p code payload) :=
  of_payload rfl rfl fun h => by
    simp [Instr.wellFormed, Machine.maxPayload] at h
    exact of_decide_eq_true h.1

theorem frameDiscard (p : Port) (kind : FrameError) : Statement (.frameDiscard p kind) := of_none rfl rfl

theorem gapDiscard (p : Port) : Statement (.gapDiscard p) := of_none rfl rfl

theorem replyComplete (p : Port) : Statement (.replyComplete p) := of_none rfl rfl

theorem powerOnReset (cfgsel1 cfgsel0 : Bool) : Statement (.powerOnReset cfgsel1 cfgsel0) := of_none rfl rfl

theorem keyCycleReset : Statement .keyCycleReset := of_none rfl rfl

theorem resetEnd : Statement .resetEnd := of_none rfl rfl

theorem decayExpiry (e : Element) (c : FaultClass) : Statement (.decayExpiry e c) := of_none rfl rfl

theorem checkInDeadlineExpiry (p : Port) : Statement (.checkInDeadlineExpiry p) := of_none rfl rfl

theorem dwellExpiry : Statement .dwellExpiry := of_none rfl rfl

theorem adoptionDeadlineExpiry (d : DrivePort) : Statement (.adoptionDeadlineExpiry d) := of_none rfl rfl

theorem ballotWindowExpiry : Statement .ballotWindowExpiry := of_none rfl rfl

theorem trialExpiry (slot : TrialSlot) : Statement (.trialExpiry slot) := of_none rfl rfl

theorem startWindowExpiry : Statement .startWindowExpiry := of_none rfl rfl

theorem integrityCheckExpiry : Statement .integrityCheckExpiry := of_none rfl rfl

theorem lineQualify (l : FaultLine) : Statement (.lineQualify l) := of_none rfl rfl

theorem lineUnqualify (l : FaultLine) : Statement (.lineUnqualify l) := of_none rfl rfl

theorem lineEdge (l : FaultLine) : Statement (.lineEdge l) := of_none rfl rfl

theorem readbackMismatch (m : ThirdMismatch) : Statement (.readbackMismatch m) := of_none rfl rfl

theorem svcDeasserted : Statement .svcDeasserted := of_none rfl rfl

theorem lineSample (l : FaultLine) (high : Bool) : Statement (.lineSample l high) := of_none rfl rfl

theorem readbackSample (first : DrivePort) (levels : Readback) : Statement (.readbackSample first levels) :=
  of_none rfl rfl

theorem svcAsserted : Statement .svcAsserted := of_none rfl rfl

theorem millisecondTick : Statement .millisecondTick := of_none rfl rfl

theorem configurationImageCorruption (offset : Fin 236) (value : Byte) : Statement (.configurationImageCorruption offset value) :=
  of_none rfl rfl

theorem frameStart (p : Port) (byte : Byte) : Statement (.frameStart p byte) := of_none rfl rfl

end Sys2Proof.Laws.RequestForm
end

