-- ==== Sys2Proof/Tests/Slice0.lean ====
section
/-! SUPPORT. Tests: the checks of WellFormed, frames and the digest against values worked out by hand from the spec,
one small step of every command with the outcome the spec's tables give, and for every statement a state and operands
that meet its hypotheses. -/

namespace Sys2Proof.Tests
set_option Elab.async false
open Sys2Proof Sys2Proof.Machine

/-! ## WellFormed, frames, digest -/

/-- A WRITE_CONFIG without an entry is ill formed (Table 11.5: 3 to 9 bytes). -/
theorem test_writeConfig_too_short_refused : (Instr.writeConfig .ride 6 0 []).wellFormed = false := by decide

/-- A WRITE_CONFIG of ten payload bytes is ill formed, one of nine is well formed (Table 11.5). -/
theorem test_writeConfig_length_bound : (Instr.writeConfig .ride 7 0 [0, 0, 0, 0, 0, 0, 0, 0]).wellFormed = false ∧
    (Instr.writeConfig .ride 7 0 [0, 0, 0, 0, 0, 0, 0]).wellFormed = true := by decide

/-- A known code with a length that it allows is no UNKNOWN_REQUEST (R175). -/
theorem test_unknownRequest_known_refused : (Instr.unknownRequest .front 0x20 []).wellFormed = false ∧
    (Instr.unknownRequest .front 0x20 [0]).wellFormed = true := by decide

/-- No frame carries 25 payload bytes (R174). -/
theorem test_unknownRequest_too_long_refused :
    (Instr.unknownRequest .front 0x99 (List.replicate 25 0)).wellFormed = false ∧
    (Instr.unknownRequest .front 0x99 (List.replicate 24 0)).wellFormed = true := by decide

/-- The CRC of R166 (polynomial 0x1021, initial value 0xFFFF) over the nine digits 1 to 9 is 0x29B1, its check value. -/
theorem test_crc_check_value :
    crc16 [0x31, 0x32, 0x33, 0x34, 0x35, 0x36, 0x37, 0x38, 0x39] = 0x29B1#16 := by decide +kernel

set_option maxRecDepth 100000 in
/-- The factory image has 236 bytes (R183) and the digest 0xA42D, computed apart from this model from the tables of
the factory values. -/
theorem test_factory_digest : factoryImage.length = 236 ∧ crc16 factoryImage = 0xA42D#16 := by decide +kernel

/-- A READ_NOTICE frame written by hand (code 0x15, length 0, CRC 0xE189 low byte first). -/
theorem test_decode_readNotice : decodeFrame .pack [0x15, 0x00, 0x89, 0xE1] = some (.readNotice .pack) := by
  decide +kernel

/-- A SERVICE_CLEAR of all elements (code 0x49, length 1, payload 0xFF). -/
theorem test_decode_serviceClear :
    decodeFrame .ride [0x49, 0x01, 0xFF, 0x61, 0x62] = some (.serviceClear .ride 0xFF) := by decide +kernel

/-- A START of the digest 0xA42D (code 0x40, low byte first). -/
theorem test_decode_start :
    decodeFrame .ride [0x40, 0x02, 0x2D, 0xA4, 0xE8, 0x01] = some (.start .ride 0xA42D) := by decide +kernel

/-- A two-byte REPORT carries no detail (R44). -/
theorem test_decode_report : decodeFrame .front [0x21, 0x02, 0x01, 0x02, 0x29, 0xB8] = some (.report .front 1 2 none) := by
  decide +kernel

/-! ## The states that the tests start from -/

/-- The state after one command. -/
def after (i : Instr) (s : State) : State :=
  match exec i s with
  | .next t => t
  | .fault _ => s
  | .refused _ => s

/-- The status and payload of the reply that a port sends. -/
def reply (p : Port) (s : State) : Option (Status × List Byte) :=
  (s.ports.get p).reply.map fun r => (r.status, r.payload)

/-- A drive port that has adopted a generation and holds its permit. -/
def adopted (g : Half) : AdoptionRecord := { lastAdopted := some g, pending := false, deadline := none, latch := true }

/-- RUN under the factory image at NORMAL, generation 6, every output but PACK_TRIP high: the start of Table 12.1. -/
def driving : State :=
  { State.reset with
    time := { uptime := 50000, held := false }
    contact := PerPort.const (some 50)
    unit :=
      { State.reset.unit with
        envelope :=
          { limits := { frontCap := 250, rearCap := 250, speedCap := 45, regen := true, frontDrive := true,
                        rearDrive := true }
            severity := 0 }
        generation := 6
        adoption := { front := adopted 6, rear := adopted 6 } }
    permit :=
      { outputs := { frontEn := true, rearEn := true, regenEn := true, packTrip := false }
        mismatch := { front := 0, rear := 0 } }
    osc :=
      { State.reset.osc with
        part := .run
        frozen := some 0xA42D
        started := PerPort.const true
        integrity := some 60 } }

/-- STARTING after the START of RIDE (Table 12.3). -/
def starting : State :=
  { State.reset with
    time := { uptime := 300, held := false }
    contact := (PerPort.const none).set .ride (some 50)
    osc :=
      { State.reset.osc with
        part := .starting
        frozen := some 0xA42D
        started := (PerPort.const false).set .ride true
        startWindow := some 1000
        integrity := some 100 } }

/-- FAILSAFE from CONFIG after a readback failure (Table 6.6). -/
def stopped : State :=
  after (.readbackMismatch { drive := .rear, other := false }) { State.reset with permit.mismatch := { front := 0, rear := 2 } }

/-- A part held in reset. -/
def held : State := { State.reset with time.held := true }

/-- A SUSPECT record of one FRONT report. -/
def suspect (e : Element) (c : FaultClass) (score : Nat) (o : Origin) : FaultRecord :=
  { element := e, cls := c, state := .suspect, score := score, origins := noOrigins.insert o, reports := 1,
    firstAt := 49000, lastAt := 49000, confirmedAt := none, detail := none, line := none, decay := some 0 }

/-- A CONFIRMED record. -/
def confirmed (e : Element) (c : FaultClass) (o : Origin) : FaultRecord :=
  { suspect e c 128 o with state := .confirmed, confirmedAt := some 49000, decay := none }

/-- An element out of IN_SERVICE, with a CONFIRMED record, the target and the envelope of that health, and the permits
that the envelope allows. -/
def hurt (e : Element) (h : Health) (c : FaultClass) (s : State) : State :=
  let health := s.map.health.set e h
  let target := targetOf s.osc.image health s.unit.floors s.table.overflow
  let holds := fun d => { s.unit.adoption.get d with latch := axleAllowed target.env d && !isOut (health.get (controllerOf (portOfDrive d))) }
  { s with
    table.records := s.table.records ++ [confirmed e c .monitor]
    map.health := health
    unit :=
      { s.unit with target := target, envelope := target.env, adoption := { front := holds .front, rear := holds .rear } }
    permit.outputs := outputsOf .run target.env (holds .front).latch (holds .rear).latch }

/-- The state of Table 12.1 after FL0 has confirmed: FRONT_POWER isolated, REAR_ONLY. -/
def rearOnly : State := hurt .frontPower .isolated .overcurrent driving

/-- A ballot on FRONT_POWER opened by FRONT, with RIDE still to answer (Table 12.2 at 60,120 ms). -/
def voting : State :=
  { rearOnly with
    recovery.ballot := some
      { element := .frontPower, requester := .front, consent := portsOf true false false true,
        answered := portsOf true false false false, openedAt := 60000, window := 380 }
    ports := rearOnly.ports.set .ride
      { rearOnly.ports.ride with notices := { rearOnly.ports.ride.notices with ballot := some .frontPower } } }

/-- FRONT_POWER in its PRIMARY trial, RUNNING with no time left, under ECO (Table 8.7 at 107,000 ms). -/
def ending : State :=
  { driving with
    map.health := driving.map.health.set .frontPower .trial
    recovery.primary := some
      { element := .frontPower, state := .running, startedAt := 45000, duration := 5000, remaining := 0 }
    unit :=
      let target := targetOf factoryImage (driving.map.health.set .frontPower .trial) (PerPort.const none) false
      { driving.unit with target := target, envelope := target.env } }

/-- FL0 as in Tables 3.8 and 12.1: enabled, LEVEL, ACTIVE_HIGH, filter count 4, on E0 and C0, with three active samples
behind it. -/
def lined (entry : Byte) (f : LineFilter) : State :=
  { driving with
    osc.image := putEntry factoryImage .line 0 [entry, 0, 0]
    lines := driving.lines.set .fl0 f }

/-! ## One step of every command -/

/-- READ_STATUS page 0 (Table 11.7): uptime 50,000; no record; configuration port RIDE in bits 4 and 5; no cause, from
nothing; FRONT_EN, REAR_EN and REGEN_EN high. -/
theorem test_readStatus_page0 : reply .pack (after (.readStatus .pack 0) driving) =
    some (.ok, [0x50, 0xC3, 0, 0, 0, 0x30, 0xF0, 0, 0, 0, 0, 0, 0, 0, 0x07]) := by decide +kernel

/-- Page 1 of an open ballot (Table 11.7, Table 12.2): consent FRONT and RIDE, answered FRONT. -/
theorem test_readStatus_page1 : reply .ride (after (.readStatus .ride 1) voting) =
    some (.ok, [1, 0, 0, 0x19, 0x60, 0xEA, 0, 0, 0x7C, 0x01]) := by decide +kernel

/-- READ_ENVELOPE at REAR_ONLY (Table 11.8, Table 12.1): M0 matches, the FRONT cut applies, severity 2. -/
theorem test_readEnvelope : reply .rear (after (.readEnvelope .rear) rearOnly) =
    some (.ok, [0, 160, 20, 0x25, 0, 160, 20, 0x25, 0x01, 0, 0, 0, 0x02, 0x06, 0, 0, 0x21, 6, 0, 0, 0x31, 6, 0, 0]) := by
  decide +kernel

/-- READ_ELEMENT of an ISOLATED E0: state 2, budget 2 of 2, unlocked, one record (Table 11.5). -/
theorem test_readElement : reply .rear (after (.readElement .rear 0) rearOnly) = some (.ok, [0, 2, 2, 2, 0, 1]) ∧
    reply .rear (after (.readElement .rear 11) rearOnly) = some (.range, []) := by decide +kernel

/-- READ_FAULT of the CONFIRMED record (E0, C0) and past the count (Table 11.6). -/
theorem test_readFault : reply .ride (after (.readFault .ride 0) rearOnly) =
      some (.ok, [1, 0x0E, 0x00, 128, 0x20, 1, 0, 0x68, 0xBF, 0, 0, 0x68, 0xBF, 0, 0, 0x68, 0xBF, 0, 0, 0, 0, 0, 0, 0]) ∧
    reply .ride (after (.readFault .ride 1) rearOnly) = some (.ok, 1 :: List.replicate 23 0) ∧
    reply .ride (after (.readFault .ride 32) rearOnly) = some (.range, []) := by decide +kernel

/-- READ_RETAINED of an entry locked by C4 in key cycle 3 (Table 11.5). -/
theorem test_readRetained : reply .ride (after (.readRetained .ride 4)
      { driving with
        retained.keyCycles := 5
        retained.entries := driving.retained.entries.set .rearMotor
          { locked := true, cls := some .stall, keyCycle := some 3, lockCount := 1 } }) =
    some (.ok, [4, 7, 4, 3, 0, 1, 5, 0]) := by decide +kernel

/-- READ_NOTICE at 60,120 ms of Table 12.2 returns BALLOT with E0 and 380 ms remaining, and then NONE. -/
theorem test_readNotice : reply .ride (after (.readNotice .ride) voting) = some (.ok, [2, 0, 0x7C, 0x01]) ∧
    reply .front (after (.readNotice .front) voting) = some (.ok, [0, 0, 0, 0]) := by decide +kernel

/-- READ_CONFIG of C6 by Table 2.3, of C7's fixed parameters, and of a section that does not exist. -/
theorem test_readConfig : reply .front (after (.readConfig .front 0 6) driving) =
      some (.ok, [0, 6, 8, 64, 4, 10, 0, 0]) ∧
    reply .front (after (.readConfig .front 0 7) driving) = some (.ok, [0, 7, 255, 1, 0, 0, 0, 0]) ∧
    reply .front (after (.readConfig .front 9 0) driving) = some (.range, []) := by decide +kernel

set_option maxRecDepth 100000 in
/-- READ_CONFIG of DIGEST: the current digest 0xA42D, frozen, and the frozen one. -/
theorem test_readConfig_digest : reply .front (after (.readConfig .front 8 0) driving) =
    some (.ok, [8, 0, 0x2D, 0xA4, 1, 0x2D, 0xA4]) := by decide +kernel

/-- CHECK_IN loads 50 ms on a supervised port, and has no effect on another (Table 3.7). -/
theorem test_checkIn : (after (.checkIn .rear) { driving with contact.rear := some 3 }).contact.rear = some 50 ∧
    (after (.checkIn .rear) { driving with contact.rear := none }).contact.rear = none := by decide +kernel

/-- The second REPORT(E1, C2) of Table 1.10: CONFIRMED at 96, FRONT_MOTOR isolated with budget 2. -/
theorem test_report_confirms :
    let t := after (.report .front 1 2 none)
      { driving with table.records := [suspect .frontMotor .sensorImplausible 48 .front] }
    reply .front t = some (.ok, [1]) ∧ t.map.health.frontMotor = .isolated ∧ t.map.budget.frontMotor = 2 ∧
    t.table.records.map (·.score) = [96] ∧ t.unit.generation = 7 := by decide +kernel

/-- RIDE's report of Table 2.5 confirms by corroboration at 125, and REAR has no right to report E1 (Table 3.4). -/
theorem test_report_corroborates :
    let s := { driving with table.records := [suspect .frontCtl .overcurrent 61 .rear] }
    (after (.report .ride 2 0 none) s).table.records.map (fun x => (x.score, x.state, x.confirmedAt)) =
      [(125, .confirmed, some 50000)] ∧
    reply .rear (after (.report .rear 1 2 none) s) = some (.denied, []) := by decide +kernel

/-- Events 1 and 4 of Table 4.10: the floor P1 with severity 1, and the floor cleared. -/
theorem test_setFloor : reply .ride (after (.setFloor .ride 1) driving) = some (.ok, [1, 1]) ∧
    (after (.setFloor .ride 1) driving).unit.target.env.limits.speedCap = 25 ∧
    (after (.setFloor .ride 0) { driving with unit.floors.ride := some .eco }).unit.floors.ride = none := by
  decide +kernel

/-- ADOPT at 30,004 and 30,006 ms of Table 5.5: the current generation clears the pending flag, an earlier one is STALE. -/
theorem test_adopt :
    let s := { driving with unit.adoption.rear := { adopted 5 with pending := true, deadline := some 14, latch := false } }
    (after (.adopt .rear 6) s).unit.adoption.rear = adopted 6 ∧
    reply .rear (after (.adopt .rear 6) s) = some (.ok, [6, 0, 1]) ∧
    reply .rear (after (.adopt .rear 5) s) = some (.stale, []) := by decide +kernel

/-- RELEASE(E0) from FRONT at 60,000 ms of Table 12.2: OPEN with the set byte 0x19, a window of 500 ms, RIDE asked. -/
theorem test_release_opens :
    let t := after (.release .front 0) rearOnly
    reply .front t = some (.ok, [0, 0, 0x19]) ∧ t.recovery.ballot.map (·.window) = some 500 ∧
    t.ports.ride.notices.ballot = some .frontPower ∧ t.ports.front.notices.ballot = none := by decide +kernel

/-- RELEASE(E8) from RIDE at 80,150 ms of Table 7.6: with PACK out the ballot passes at once, STARTED in PRIMARY. -/
theorem test_release_passes :
    let t := after (.release .ride 8)
      (hurt .throttle .isolated .sensorImplausible (hurt .packCtl .isolated .lossOfContact driving))
    reply .ride t = some (.ok, [1, 0, 0x88]) ∧ t.map.health.throttle = .trial ∧ t.recovery.ballot = none ∧
    t.recovery.primary.map (·.duration) = some 3000 := by decide +kernel

/-- CONSENT(E0) from RIDE at 60,150 ms of Table 12.2: the trial starts SUSPENDED, the envelope tightens, the dwell starts. -/
theorem test_consent_passes :
    let t := after (.consent .ride 0) voting
    reply .ride t = some (.ok, [1, 0, 0x99]) ∧
    t.recovery.primary.map (fun x => (x.element, x.state, x.remaining)) = some (.frontPower, .suspended, 5000) ∧
    t.table.records = [] ∧ t.unit.envelope.limits.rearCap = 120 ∧ t.unit.envelope.limits.frontDrive = false ∧
    t.unit.generation = 7 ∧ t.unit.dwell = some 2000 := by decide +kernel

/-- VETO closes the ballot, and posts VETOED to all four ports (R122, R127). -/
theorem test_veto :
    let t := after (.veto .front 0) voting
    reply .front t = some (.ok, [2, 0, 0]) ∧ t.recovery.ballot = none ∧
    t.ports.pack.notices.trial = some (.frontPower, .vetoed) ∧ t.ports.ride.notices.ballot = none := by decide +kernel

set_option maxRecDepth 100000 in
/-- START(D0) from RIDE at 300 ms of Table 12.3: STARTING, RIDE supervised, a window of 1,000 ms. -/
theorem test_start :
    let t := after (.start .ride 0xA42D) State.reset
    reply .ride t = some (.ok, [8, 0xE8, 0x03]) ∧ t.osc.part = .starting ∧ t.contact.ride = some 50 ∧
    t.contact.rear = none ∧ t.unit.generation = 0 := by decide +kernel

set_option maxRecDepth 100000 in
/-- The START that completes the set enters RUN at NORMAL, generation 1 (R169, R171); with a digest frozen from another
image it is refused, though it names the current one (R168). -/
theorem test_start_completes :
    let s := { starting with osc.started := portsOf true false true true }
    let t := after (.start .rear 0xA42D) s
    reply .rear t = some (.ok, [15, 0xFF, 0xFF]) ∧ t.osc.part = .run ∧ t.unit.generation = 1 ∧
    t.unit.envelope.limits.speedCap = 45 ∧ t.unit.adoption.front.deadline = some 20 ∧
    (let u := after (.start .rear 0xA42D) { s with osc.frozen := some 0xA42C }
     reply .rear u = some (.digestMismatch, []) ∧ u.osc.part = .starting ∧ u.osc.started.rear = false) := by decide +kernel

/-- WRITE_CONFIG of a PORT entry of 60 ms is taken, of 4 ms refused (R56), and any in FAILSAFE (Table 6.6). -/
theorem test_writeConfig :
    let t := after (.writeConfig .ride 6 1 [60]) State.reset
    reply .ride t = some (.ok, []) ∧ checkInValue t.osc.image .rear = 60 ∧
    reply .ride (after (.writeConfig .ride 6 1 [4]) State.reset) = some (.range, []) ∧
    reply .ride (after (.writeConfig .ride 6 1 [60]) stopped) = some (.failsafe, []) := by decide +kernel

/-- SERVICE_ARM needs the configuration port and SVC (Table 9.2). -/
theorem test_serviceArm :
    (after (.serviceArm .ride) { State.reset with osc.svc := true }).osc.arm = true ∧
    reply .ride (after (.serviceArm .ride) State.reset) = some (.denied, []) ∧
    reply .pack (after (.serviceArm .pack) { State.reset with osc.svc := true }) = some (.denied, []) := by decide +kernel

/-- SERVICE_CLEAR unlocks what it names and clears the arm; without the arm it is NOT_ARMED (Table 9.3). -/
theorem test_serviceClear :
    let s := { State.reset with
      retained.entries := State.reset.retained.entries.set .brake
        { locked := true, cls := some .stall, keyCycle := some 0, lockCount := 1 } }
    let t := after (.serviceClear .ride 0xFF) { s with osc.svc := true, osc.arm := true }
    reply .ride t = some (.ok, [1]) ∧ t.osc.arm = false ∧ t.retained.entries.brake.locked = false ∧
    t.retained.entries.brake.lockCount = 1 ∧
    reply .ride (after (.serviceClear .ride 0xFF) s) = some (.notArmed, []) := by decide +kernel

/-- An unknown code is UNKNOWN, a CHECK_IN of one byte RANGE (R175). -/
theorem test_unknownRequest : reply .front (after (.unknownRequest .front 0x99 [1, 2]) driving) = some (.unknown, []) ∧
    reply .front (after (.unknownRequest .front 0x20 [1]) driving) = some (.range, []) := by decide +kernel

/-- A CRC discard posts LINKERR, records its kind and reports C6, weight 8, on the port's controller (R62, R176). -/
theorem test_frameDiscard :
    let t := after (.frameDiscard .rear .crc) driving
    t.ports.rear.lastError = some .crc ∧ t.ports.rear.notices.linkErr = some .crc ∧ t.ports.rear.receiver = .idle ∧
    t.table.records.map (fun x => (x.element, x.cls, x.score)) = [(.rearCtl, .frameIntegrity, 8)] := by decide +kernel

/-- An OVERLAP leaves the port REPLYING, and a second one is ignored (R176). -/
theorem test_frameDiscard_overlap :
    let t := after (.frameDiscard .rear .overlap) (after (.checkIn .rear) driving)
    t.ports.rear.receiver = .replying ∧ t.ports.rear.lastError = some .overlap ∧
    after (.frameDiscard .rear .overlap) t = t := by decide +kernel

/-- A GAP discard of a port that is RECEIVING leaves it IDLE with an empty buffer (R174, R176). -/
theorem test_gapDiscard :
    let t := after (.gapDiscard .pack) (after (.frameStart .pack 0x20) State.reset)
    t.ports.pack.receiver = .idle ∧ t.ports.pack.buffer = [] ∧ t.ports.pack.lastError = some .gap ∧ t.table.records = [] := by
  decide +kernel

/-- The end of a reply leaves the port IDLE (R173). -/
theorem test_replyComplete :
    (after (.replyComplete .rear) (after (.checkIn .rear) driving)).ports.rear.receiver = .idle := by decide +kernel

/-- Strap value 10 makes FRONT the configuration port, and the outputs fall (R104, R161). -/
theorem test_powerOnReset :
    let t := after (.powerOnReset true false) driving
    t.osc.configPort = .front ∧ t.time.held = true ∧ t.osc.part = .config ∧ t.permit.outputs.regenEn = false := by
  decide +kernel

/-- A key-cycle reset counts the cycle and empties the table; a counter at 65,535 stays (R42, R150, R162). -/
theorem test_keyCycleReset :
    (after .keyCycleReset rearOnly).retained.keyCycles = 1 ∧ (after .keyCycleReset rearOnly).table.records = [] ∧
    (after .keyCycleReset { rearOnly with retained.keyCycles := 65535 }).retained.keyCycles = 65535 := by decide +kernel

/-- The uptime is 0 when the reset ends (R158). -/
theorem test_resetEnd : (after .resetEnd { held with time.uptime := 77 }).time = { uptime := 0, held := false } := by
  decide +kernel

/-- A decay expiry of Table 2.5 takes 64 to 63, and one at 17 removes the record of C0, whose clear threshold is 16 (R36). -/
theorem test_decayExpiry :
    (after (.decayExpiry .frontCtl .overcurrent)
      { driving with table.records := [suspect .frontCtl .overcurrent 64 .rear] }).table.records.map
        (fun x => (x.score, x.decay)) = [(63, some 100)] ∧
    (after (.decayExpiry .frontCtl .overcurrent)
      { driving with table.records := [suspect .frontCtl .overcurrent 17 .rear] }).table.records = [] := by decide +kernel

/-- The expiries at 20,050 and 20,100 ms of Table 3.7. -/
theorem test_checkInDeadlineExpiry :
    let s := { driving with contact.rear := some 0 }
    let t := after (.checkInDeadlineExpiry .rear)
      { s with table.records := [suspect .rearCtl .lossOfContact 64 .monitor] }
    (after (.checkInDeadlineExpiry .rear) s).contact.rear = some 50 ∧
    (after (.checkInDeadlineExpiry .rear) s).table.records.map (·.score) = [64] ∧
    t.contact.rear = none ∧ t.table.records.map (·.score) = [128] ∧ t.map.health.rearCtl = .isolated := by decide +kernel

/-- The dwell expiry at 47,000 ms of Table 5.5 publishes ECO, and both drive ports owe the new generation. -/
theorem test_dwellExpiry :
    let t := after .dwellExpiry
      { driving with
        unit.target := targetOf factoryImage driving.map.health ((PerPort.const none).set .ride (some .eco)) false
        unit.envelope := { limits := { frontCap := 60, rearCap := 60, speedCap := 12, regen := false,
                                       frontDrive := true, rearDrive := true }, severity := 5 }
        unit.dwell := some 0 }
    t.unit.envelope.limits.speedCap = 25 ∧ t.unit.envelope.severity = 1 ∧ t.unit.generation = 7 ∧ t.unit.dwell = none ∧
    t.unit.adoption.rear = { adopted 6 with pending := true, deadline := some 20 } := by decide +kernel

/-- The lapse at 47,020 ms of Table 5.6: REAR_CTL isolated by a record of score 255, REAR owes nothing and has no permit. -/
theorem test_adoptionDeadlineExpiry :
    let t := after (.adoptionDeadlineExpiry .rear)
      { driving with unit.adoption.rear := { adopted 5 with pending := true, deadline := some 0 } }
    t.map.health.rearCtl = .isolated ∧ t.table.records.map (·.score) = [255] ∧ t.unit.envelope.severity = 3 ∧
    t.unit.adoption.rear = { adopted 5 with latch := false } ∧ t.permit.outputs.rearEn = false ∧
    t.unit.adoption.front = { adopted 6 with pending := true, deadline := some 20 } := by decide +kernel

/-- The end of the window lapses the ballot (R124). -/
theorem test_ballotWindowExpiry :
    let t := after .ballotWindowExpiry { voting with recovery.ballot := voting.recovery.ballot.map fun b => { b with window := 0 } }
    t.recovery.ballot = none ∧ t.ports.rear.notices.trial = some (.frontPower, .lapsed) ∧
    t.map.health.frontPower = .isolated := by decide +kernel

/-- The trial expiry at 107,000 ms of Table 8.7: IN_SERVICE, the target NORMAL, the dwell started. -/
theorem test_trialExpiry :
    let t := after (.trialExpiry .primary) ending
    t.recovery.primary = none ∧ t.map.health.frontPower = .inService ∧ t.unit.target.env.severity = 0 ∧
    t.unit.envelope.severity = 1 ∧ t.unit.dwell = some 2000 ∧ t.ports.pack.notices.trial = some (.frontPower, .passed) := by
  decide +kernel

/-- The window's expiry at 1,300 ms of Table 12.3: REAR_CTL isolated by a record of score 128, FRONT_ONLY published. -/
theorem test_startWindowExpiry :
    let t := after .startWindowExpiry
      { starting with osc.started := portsOf true false true true, osc.startWindow := some 0 }
    t.osc.part = .run ∧ t.map.health.rearCtl = .isolated ∧ t.table.records.map (·.score) = [128] ∧
    t.unit.generation = 1 ∧ t.unit.envelope.limits.speedCap = 15 ∧ t.unit.envelope.severity = 3 ∧
    t.permit.outputs = { frontEn := false, rearEn := false, regenEn := true, packTrip := false } := by decide +kernel

set_option maxRecDepth 100000 in
/-- The integrity check passes an image as frozen, and stops one with a byte changed (R167). -/
theorem test_integrityCheckExpiry :
    let s := { driving with osc.integrity := some 0 }
    (after .integrityCheckExpiry s).osc.part = .run ∧ (after .integrityCheckExpiry s).osc.integrity = some 100 ∧
    (after .integrityCheckExpiry { s with osc.image := factoryImage.set 0 65 }).osc.cause.cause = .configIntegrity := by
  decide +kernel

/-- Sample 6 of Table 3.8 qualifies FL0: CONFIRMED at 128, FRONT_POWER isolated. -/
theorem test_lineQualify :
    let t := after (.lineQualify .fl0) (lined 0x31 { qualified := false, run := 3, reference := none })
    t.lines.fl0 = { qualified := true, run := 0, reference := none } ∧ t.map.health.frontPower = .isolated ∧
    t.table.records.map (fun x => (x.score, x.line)) = [(128, some .fl0)] := by decide +kernel

/-- Sample 46 of Table 3.8 un-qualifies FL0 without a report. -/
theorem test_lineUnqualify :
    let t := after (.lineUnqualify .fl0) (lined 0x31 { qualified := true, run := 3, reference := none })
    t.lines.fl0 = { qualified := false, run := 0, reference := none } ∧ t.table.records = [] := by decide +kernel

/-- A rising edge reports once (R53). -/
theorem test_lineEdge :
    let t := after (.lineEdge .fl0) (lined 0x33 { qualified := false, run := 0, reference := some false })
    t.lines.fl0.reference = some true ∧ t.table.records.map (·.score) = [128] := by decide +kernel

/-- The third mismatch at 60,003 ms of Table 6.5: FAILSAFE from RUN, every drive output low, PACK_TRIP high, and RRB
compared with REAR_EN as it stood, so that the rear counter stays 0. -/
theorem test_readbackMismatch :
    let t := after (.readbackMismatch { drive := .front, other := true }) { rearOnly with permit.mismatch.front := 2 }
    t.osc.part = .failsafe ∧ t.osc.cause = { cause := .readbackFront, enteredAt := some 50000, enteredFrom := some .run } ∧
    t.unit.generation = 7 ∧ t.permit.mismatch = { front := 3, rear := 0 } ∧
    t.permit.outputs = { frontEn := false, rearEn := false, regenEn := false, packTrip := true } := by
  decide +kernel

/-- A deasserted SVC clears the arm (Table 9.4). -/
theorem test_svcDeasserted :
    (after .svcDeasserted { State.reset with osc.svc := true, osc.arm := true }).osc.arm = false := by decide +kernel

/-- Samples 5 and 42 of Table 3.8. -/
theorem test_lineSample :
    (after (.lineSample .fl0 true) (lined 0x31 { qualified := false, run := 2, reference := none })).lines.fl0.run = 3 ∧
    (after (.lineSample .fl0 true) (lined 0x31 { qualified := true, run := 1, reference := none })).lines.fl0 =
      { qualified := true, run := 0, reference := none } := by decide +kernel

/-- The samples at 1 and 3 ms of Table 6.6: the counter rises, and the third mismatch is FAILSAFE at generation 0. Those
at 60,003 and 60,004 ms of Table 6.5, and both counters at 3 on one sample, where the first request is recorded (R108). -/
theorem test_readbackSample :
    (after (.readbackSample .front { frb := false, rrb := true }) State.reset).permit.mismatch = { front := 0, rear := 1 } ∧
    (let t := after (.readbackSample .front { frb := false, rrb := true }) { State.reset with permit.mismatch.rear := 2 }
     t.osc.part = .failsafe ∧ t.osc.cause.cause = .readbackRear ∧ t.unit.generation = 0 ∧
     t.permit.outputs.packTrip = true ∧ t.ports.ride.notices.envelope = some 0) ∧
    (let t := after (.readbackSample .front { frb := true, rrb := true }) { rearOnly with permit.mismatch.front := 2 }
     t.permit.mismatch = { front := 3, rear := 0 } ∧ t.permit.outputs.rearEn = false ∧
     (after (.readbackSample .rear { frb := true, rrb := false }) t).permit.mismatch = { front := 3, rear := 0 }) ∧
    (let s := { State.reset with permit.mismatch := { front := 2, rear := 2 } }
     (after (.readbackSample .front { frb := true, rrb := true }) s).osc.cause.cause = .readbackFront ∧
     (after (.readbackSample .rear { frb := true, rrb := true }) s).osc.cause.cause = .readbackRear) := by
  decide +kernel

/-- An asserted SVC is the SVC level (R153). -/
theorem test_svcAsserted : (after .svcAsserted State.reset).osc.svc = true := by decide +kernel

/-- A millisecond advances the uptime, which wraps, and lowers a deadline (R158, R159); FAILSAFE freezes it (R58). -/
theorem test_millisecondTick :
    (after .millisecondTick { driving with time.uptime := 4294967295 }).time.uptime = 0 ∧
    (after .millisecondTick driving).contact.rear = some 49 ∧
    (after .millisecondTick { driving with osc.part := .failsafe }).contact.rear = some 50 := by decide +kernel

/-- A corruption changes one byte of the stored image (R167). -/
theorem test_corruption :
    byteAt (after (.configurationImageCorruption 225 7) driving).osc.image 225 = 7 ∧
    (after (.configurationImageCorruption 225 7) driving).osc.image.length = 236 := by decide +kernel

/-- A first byte on an IDLE port is received; on a port that is REPLYING it is an OVERLAP (R173). -/
theorem test_frameStart :
    (after (.frameStart .pack 0x20) driving).ports.pack.receiver = .receiving ∧
    (after (.frameStart .rear 0x20) (after (.checkIn .rear) driving)).ports.rear.lastError = some .overlap := by
  decide +kernel

/-- An empty queue idles (assumption 1). -/
theorem test_step_idles : step driving = .next driving := rfl

/-! ## Witnesses: for each statement with hypotheses, states and operands that meet them, clause by clause -/

/-- A trial is in flight exactly when a slot holds one of the element, as a Bool. -/
theorem inFlight_iff (r : RecoveryUnit) (e : Element) :
    InFlight r e ↔ (r.primary.any (·.element == e) || r.nested.any (·.element == e)) = true := by
  cases hp : r.primary <;> cases hn : r.nested <;> simp [InFlight, hp, hn]

/-- Requests of a short form, of a long form, and of an unknown code. -/
theorem witness_RequestFramesDecodeBack :
    (Instr.report .front 1 2 (some 5)).wellFormed = true ∧ requestPort (.report .front 1 2 (some 5)) = some .front ∧
    (Instr.writeConfig .ride 7 0 [0, 0, 0, 0, 0, 0, 0]).wellFormed = true ∧
    (Instr.unknownRequest .pack 0x99 []).wellFormed = true ∧ requestPort (.unknownRequest .pack 0x99 []) = some .pack := by
  decide

/-- A length byte of 25, a CHECK_IN frame with its CRC wrong, and the CHECK_IN frame with its code byte changed. -/
theorem witness_DamagedFramesAreDiscarded :
    24 < (25#8).toNat ∧ ([] : List Byte).length = (0#8).toNat ∧ (0#8).toNat ≤ 24 ∧
    0x1B#8 ++ 0xE8#8 ≠ crc16 [0x20, 0x00] ∧
    (Instr.checkIn .front).wellFormed = true ∧ requestPort (.checkIn .front) = some .front ∧
    encodeFrame (.checkIn .front) = some [0x20, 0x00, 0xE9, 0x1B] ∧ 0 < 4 ∧
    byteAt [0x20, 0x00, 0xE9, 0x1B] 0 ≠ 0x21 := by decide +kernel

/-- A factory entry of each section, at the last index of its section, and another entry beside it. -/
theorem witness_EntriesAreWrittenAndReadWhole :
    (∀ k ∈ [Sect.cls, .element, .group, .profile, .modeRule, .line, .port, .glob],
      fieldsInRange k (entryAt factoryImage k (sectCount k - 1)) = true ∧
      (entryAt factoryImage k (sectCount k - 1)).length = sectLength k ∧ sectCount k - 1 < sectCount k) ∧
    factoryImage.length = 236 ∧ 0 < sectCount .glob ∧ ¬(Sect.glob = .cls ∧ 0 = 6) := by decide +kernel

/-- Pages 0 to 3, without and with a ballot and a trial. -/
theorem witness_ReadStatusShowsThePart :
    Listens .front driving ∧ driving.recovery.ballot = none ∧ Listens .front voting ∧ voting.recovery.ballot ≠ none ∧
    Listens .front ending ∧ ending.recovery.primary ≠ none ∧ 2 < (3#8).toNat := by
  unfold Listens; decide +kernel

/-- A port that listens. -/
theorem witness_ReadEnvelopeShowsTheUnit : Listens .rear rearOnly := by unfold Listens; decide +kernel

/-- E0, E10, and the first number past them. -/
theorem witness_ReadElementAndRetained :
    Listens .ride rearOnly ∧ 0#8 = BitVec.ofNat 8 (elementCode .frontPower) ∧
    10#8 = BitVec.ofNat 8 (elementCode .rideCtl) ∧ 10 < (11#8).toNat := by unfold Listens; decide +kernel

/-- Position 0 with a record, 31 without one, and 32. -/
theorem witness_ReadFaultShowsTheRecord :
    Listens .front rearOnly ∧ (0#8).toNat ≤ 31 ∧ rearOnly.table.records[(0#8).toNat]?.isSome = true ∧
    (31#8).toNat ≤ 31 ∧ rearOnly.table.records[(31#8).toNat]? = none ∧ 31 < (32#8).toNat := by
  unfold Listens; decide +kernel

/-- FRONT's pending set replaced. -/
def noticed (v : NoticeSet) : State := { voting with ports.front.notices := v }

/-- A pending set whose first class is each of the five in turn, and an empty one. -/
theorem witness_ReadNoticeTakesTheFirstClass :
    (∀ v ∈ [{ NoticeSet.empty with envelope := some 7 }, { NoticeSet.empty with ballot := some .frontPower },
        { NoticeSet.empty with confirmed := some (.frontPower, none) },
        { NoticeSet.empty with trial := some (.frontPower, .passed) },
        { NoticeSet.empty with linkErr := some .gap }, NoticeSet.empty],
      Listens .front (noticed v) ∧ ((noticed v).ports.get .front).notices = v) ∧
    (noticed NoticeSet.empty).recovery.ballot.isSome = true := by unfold Listens; decide +kernel

/-- The last CLASS entry, the fixed entries, the digests, and two places that hold nothing. -/
theorem witness_ReadConfigShowsTheEntry :
    Listens .front driving ∧ sectOf 0 = some .cls ∧ (6#8).toNat < sectCount .cls ∧ sectOf 3 = some .profile ∧
    (∀ sect, sectOf 9 = some sect → sectCount sect ≤ (0#8).toNat) ∧
    (∀ sect, sectOf 7 = some sect → sectCount sect ≤ (1#8).toNat) ∧
    ¬((7#8 = 0#8 ∨ 7#8 = 3#8) ∧ 1#8 = 7#8) ∧ ¬(7#8 = 8#8 ∧ 1#8 = 0#8) := by
  refine ⟨by unfold Listens; decide +kernel, by decide, by decide, by decide, ?_, ?_, by decide, by decide⟩ <;>
    intro sect <;> cases sect <;> decide

/-- A supervised port in RUN, FAILSAFE, and a deadline that has run out. -/
theorem witness_CheckInLoadsTheDeadline :
    Listens .rear driving ∧ driving.osc.part ≠ .failsafe ∧ Listens .rear stopped ∧ stopped.osc.part = .failsafe ∧
    Running { driving with contact.rear := some 0 } ∧ driving.time.held = false := by
  unfold Listens Running; decide +kernel

/-- Each part state, a port out of service, both numbers past their ranges, and a report without and with the right. -/
theorem witness_ReportIsCheckedAndTaken :
    Listens .rear State.reset ∧ State.reset.osc.part = .config ∧ Listens .rear stopped ∧ stopped.osc.part = .failsafe ∧
    Listens .rear driving ∧ Running driving ∧ portInService driving .rear = true ∧
    portInService (hurt .rearCtl .isolated .lossOfContact driving) .rear = false ∧ 10 < (11#8).toNat ∧ 4 < (5#8).toNat ∧
    3#8 = BitVec.ofNat 8 (elementCode .rearPower) ∧ 4#8 = BitVec.ofNat 8 (classCode .stall) ∧
    (elementConfig driving.osc.image .rearPower).rights.get .rear = true ∧
    (elementConfig driving.osc.image .frontPower).rights.get .rear = false := by
  unfold Listens Running; decide +kernel

/-- P0, P7 and the first number past them, in RUN, with the port in and out of service. -/
theorem witness_FloorRequestsAreCheckedAndSet :
    Listens .ride State.reset ∧ Listens .ride stopped ∧ Listens .ride driving ∧ Running driving ∧
    portInService driving .ride = true ∧ portInService (hurt .rideCtl .isolated .lossOfContact driving) .ride = false ∧
    0#8 = BitVec.ofNat 8 (profileRank .normal) ∧ 7#8 = BitVec.ofNat 8 (profileRank .safeStop) ∧ 7 < (8#8).toNat := by
  unfold Listens Running; decide +kernel

/-- Each part state, a port that is no drive port, a drive port out of service, and both generations. -/
theorem witness_AdoptIsCheckedAndTaken :
    Listens .rear State.reset ∧ Listens .rear starting ∧ starting.osc.part = .starting ∧ Listens .rear stopped ∧
    Listens .rear driving ∧ driving.osc.part = .run ∧ Port.rear = portOfDrive .rear ∧
    portInService (hurt .rearCtl .isolated .lossOfContact driving) .rear = false ∧
    portInService driving .rear = true ∧ 6#16 = driving.unit.generation ∧ 5#16 ≠ driving.unit.generation := by
  unfold Listens; decide +kernel

/-- A deadline that has run out on a controller in service, with room in the table. -/
theorem witness_AdoptionLapseIsReported :
    let s := { driving with unit.adoption.rear := { adopted 5 with pending := true, deadline := some 0 } }
    s.time.held = false ∧ s.osc.part = .run ∧ (s.unit.adoption.get .rear).deadline = some 0 ∧
    s.map.health.get (controllerOf (portOfDrive .rear)) = .inService ∧
    recordOf s (controllerOf (portOfDrive .rear)) .adoptionLapse = none ∧ s.table.records.length < 32 := by decide +kernel

/-- FRONT_POWER isolated with its PRIMARY trial slot taken by another element's trial. -/
def slotted (e : Element) (st : TrialState) : State :=
  { rearOnly with
    recovery.primary := some { element := e, state := st, startedAt := 49000, duration := 5000, remaining := 100 } }

/-- Both consent ports of FRONT_POWER out of service but the element's budget left; and the checks before. -/
theorem witness_ReleaseIsCheckedAndOpensABallot :
    Listens .front State.reset ∧ Listens .front stopped ∧ Listens .front driving ∧ driving.osc.part = .run ∧
    portInService (hurt .frontCtl .isolated .lossOfContact driving) .front = false ∧ portInService driving .front = true ∧
    10 < (11#8).toNat ∧ driving.map.health.get .frontPower = .inService ∧
    Listens .front rearOnly ∧ portInService rearOnly .front = true ∧ rearOnly.map.health.get .frontPower = .isolated ∧
    rearOnly.recovery.ballot = none ∧ Listens .front voting ∧ voting.recovery.ballot ≠ none ∧
    rearOnly.map.budget.get .frontPower ≠ 0 ∧ (consentSet .frontPower rearOnly).get .ride = true ∧ Port.ride ≠ .front ∧
    ({ rearOnly with map.budget.frontPower := 0 } : State).map.budget.get .frontPower = 0 := by
  unfold Listens; decide +kernel

/-- The four outcomes of Table 7.5, and an element whose consent ports are all out of service. -/
theorem witness_ReleaseIsCheckedAndOpensABallot_slots :
    slotFor rearOnly.recovery .frontPower = .ok .primary ∧
    slotFor (slotted .rearPower .running).recovery .frontPower = .error .busy ∧
    slotFor (slotted .frontMotor .suspended).recovery .frontPower = .error .groupHeld ∧
    slotFor (slotted .rearPower .suspended).recovery .frontPower = .ok .nested ∧
    slotFor { ending.recovery with nested := ending.recovery.primary } .frontPower = .error .busy ∧
    ∀ q, (consentSet .rideCtl (hurt .rideCtl .isolated .stall (hurt .packCtl .isolated .stall driving))).get q = false := by
  refine ⟨rfl, rfl, rfl, rfl, rfl, ?_⟩
  intro q; cases q <;> decide +kernel

/-- A ballot that asks three ports, so that one CONSENT does not complete it. -/
def asking : State :=
  { rearOnly with
    recovery.ballot := some
      { element := .frontPower, requester := .front, consent := portsOf true false true true,
        answered := portsOf true false false false, openedAt := 49500, window := 300 } }

/-- FAILSAFE; no ballot; a port not asked, one that has answered, and one whose answer does not complete the set. -/
theorem witness_ConsentAndVetoAnswerTheBallot :
    Listens .ride stopped ∧ stopped.osc.part = .failsafe ∧ Listens .ride rearOnly ∧ rearOnly.osc.part ≠ .failsafe ∧
    rearOnly.recovery.ballot = none ∧ Listens .ride asking ∧
    (∃ b, asking.recovery.ballot = some b ∧ 0#8 = BitVec.ofNat 8 (elementCode b.element) ∧
      b.consent.get .rear = false ∧ b.consent.get .front = true ∧ b.answered.get .front = true ∧
      b.consent.get .ride = true ∧ b.answered.get .ride = false ∧ b.answered.set .ride true ≠ b.consent) := by
  unfold Listens
  exact ⟨by decide +kernel, by decide +kernel, by decide +kernel, by decide +kernel, by decide +kernel, by decide +kernel,
    _, rfl, by decide, by decide, by decide, by decide, by decide, by decide, by decide⟩

/-- A CONSENT that completes the set, with a slot and without one; a requester asked alone; and a window at its end. -/
theorem witness_CompletedBallotsPassAndOthersLapse :
    (∃ b, voting.recovery.ballot = some b ∧ b.consent.get .ride = true ∧ b.answered.get .ride = false ∧
      b.answered.set .ride true = b.consent ∧ slotFor voting.recovery b.element = .ok .primary ∧
      slotFor { voting.recovery with primary := ending.recovery.primary } b.element = .error .busy) ∧
    (let s := hurt .throttle .isolated .sensorImplausible (hurt .packCtl .isolated .lossOfContact driving)
     s.map.health.get .throttle = .isolated ∧ s.recovery.ballot = none ∧ s.map.budget.get .throttle ≠ 0 ∧
     portInService s .ride = true ∧ ∀ q, (consentSet .throttle s).get q = true ↔ q = .ride) ∧
    (voting.time.held = false ∧ voting.osc.part = .run ∧
     ∃ b, ({ voting with recovery.ballot := voting.recovery.ballot.map fun b => { b with window := 0 } } : State).recovery.ballot =
       some b ∧ b.window = 0) := by
  refine ⟨⟨_, rfl, by decide, by decide, by decide, rfl, rfl⟩, ⟨by decide +kernel, by decide +kernel, by decide +kernel,
    by decide +kernel, ?_⟩, by decide +kernel, by decide +kernel, _, rfl, rfl⟩
  intro q; cases q <;> decide +kernel

set_option maxRecDepth 100000 in
/-- Each part state, both digests, and started sets that a START joins, repeats and completes. -/
theorem witness_StartIsCheckedAndCounted :
    Listens .ride stopped ∧ Listens .ride driving ∧ Listens .ride State.reset ∧ Listens .ride starting ∧
    0xA42D#16 = crc16 State.reset.osc.image ∧ 0xA42D#16 = crc16 starting.osc.image ∧ 0#16 ≠ crc16 State.reset.osc.image ∧
    starting.osc.started.get .ride = true ∧ starting.osc.started.get .front = false ∧
    starting.osc.started.set .front true ≠ PerPort.const true ∧
    starting.osc.frozen = some 0xA42D#16 ∧ ({ starting with osc.frozen := some 0#16 } : State).osc.part = .starting ∧
    0#16 ≠ crc16 ({ starting with osc.frozen := some 0#16 } : State).osc.image ∧
    (portsOf true false true true).get .rear = false ∧ (portsOf true false true true).set .rear true = PerPort.const true := by
  unfold Listens; decide +kernel

/-- A window at its end. -/
theorem witness_StartWindowExpiryEntersRun :
    let s := { starting with osc.startWindow := some 0 }
    s.time.held = false ∧ s.osc.part = .starting ∧ s.osc.startWindow = some 0 := by decide +kernel

/-- STARTING, with nothing pending and no recovery. -/
theorem witness_RunEntryTakesItsFourSteps :
    starting.osc.part = .starting ∧ NoRecoveryBeforeRun starting ∧ NothingPendingBeforeRun starting ∧
    LatchesHold starting := by
  refine ⟨rfl, fun _ => ⟨rfl, rfl, rfl, ?_⟩, fun _ => ?_, ?_⟩
  · intro e; cases e <;> decide
  · intro d; cases d <;> decide
  · intro d; cases d <;> decide

/-- Each part state, both ports, an entry that passes in each kind of section, and entries that fail each check. -/
theorem witness_WriteConfigIsCheckedAndTaken :
    Listens .ride State.reset ∧ State.reset.osc.part = .config ∧ Port.ride = State.reset.osc.configPort ∧
    Port.pack ≠ State.reset.osc.configPort ∧ Listens .ride stopped ∧ Listens .ride starting ∧ Listens .ride driving ∧
    ImageLength State.reset ∧
    (∀ k ∈ [(0#8, Sect.cls, [64#8, 128#8, 16#8, 10#8, 2#8, 0#8]), (1#8, .element, [15#8, 15#8, 7#8]),
        (3#8, .profile, [0#8, 0#8, 0#8, 0#8]), (4#8, .modeRule, [0x51#8, 0#8, 0#8, 0#8, 0#8, 0#8]), (6#8, .port, [5#8])],
      sectOf k.1 = some k.2.1 ∧ (0#8).toNat < sectCount k.2.1 ∧ fieldsInRange k.2.1 k.2.2 = true ∧
      crossFields k.2.1 k.2.2 = true) ∧
    fieldsInRange .port [4#8] = false ∧ crossFields .cls [64#8, 16#8, 16#8, 10#8, 2#8, 0#8] = false ∧ sectOf 8 = none := by
  unfold Listens ImageLength; decide +kernel

/-- The arm set and clear, the configuration port and another, and the bounds of the element number. -/
theorem witness_ServiceRequestsAreCheckedAndTaken :
    let s := { State.reset with osc.svc := true, osc.arm := true }
    Listens .ride s ∧ s.osc.part = .config ∧ Port.ride = s.osc.configPort ∧ s.osc.svc = true ∧ s.osc.arm = true ∧
    Port.pack ≠ s.osc.configPort ∧ Listens .ride State.reset ∧ State.reset.osc.arm = false ∧ Listens .ride stopped ∧
    Listens .ride driving ∧ (10#8).toNat ≤ 10 ∧ 10 < (11#8).toNat ∧ 11#8 ≠ 0xFF#8 := by
  unfold Listens; decide +kernel

/-- A port in each receiver state, and the codes and lengths of the first clause. -/
theorem witness_LinkPortsAnswerReceiveAndDiscard :
    Listens .front driving ∧ ([] : List Byte).length ≤ 24 ∧ (Instr.unknownRequest .front 0x20 [1]).wellFormed = true ∧
    (driving.ports.get .front).receiver = .idle ∧
    ((after (.frameStart .front 0x20) driving).ports.get .front).receiver = .receiving ∧
    ((after (.checkIn .front) driving).ports.get .front).receiver = .replying ∧
    requestPort (.checkIn .front) = some .front ∧ (Instr.checkIn .front).wellFormed = true := by
  unfold Listens; decide +kernel

/-- A part that runs and one that is held in reset, with a command that is neither a power-on reset nor RESET_END. -/
theorem witness_ResetsGiveTheResetValues :
    driving.time.held = false ∧ held.time.held = true ∧ (∀ c1 c0, Instr.keyCycleReset ≠ .powerOnReset c1 c0) ∧
    Instr.keyCycleReset ≠ .resetEnd := by decide

/-- A record at 18, which stays at 17, and one at 17, which goes (C0's clear threshold is 16). -/
theorem witness_DecayLowersTheScore :
    let x := suspect .frontCtl .overcurrent 18 .rear
    let s := { driving with table.records := [x] }
    s.time.held = false ∧ Running s ∧ TableWellFormed s ∧ x ∈ s.table.records ∧ x.state = .suspect ∧ x.decay = some 0 ∧
    (classParams s.osc.image .overcurrent).clear < x.score - 1 := by
  refine ⟨rfl, Or.inr rfl, ⟨by decide, ?_⟩, by decide, rfl, rfl, by decide +kernel⟩
  exact List.pairwise_singleton _ _

/-- The slots agree when NESTED is empty. -/
theorem slotsAgree_of_nested_none {r : RecoveryUnit} (h : r.nested = none) : SlotsAgree r :=
  fun n hn => absurd (h.symm.trans hn) (by simp)

/-- In `ending` an element is in TRIAL exactly while a slot holds its trial. -/
theorem ending_trialsAgree : TrialsAgree ending := by
  refine ⟨slotsAgree_of_nested_none rfl, ?_, fun b h => nomatch (show none = some b from h)⟩
  intro e; rw [inFlight_iff]; cases e <;> decide +kernel

/-- A RUNNING trial with no time left. -/
theorem witness_TrialsPassAtTheirExpiry :
    ending.time.held = false ∧ ending.osc.part = .run ∧ TrialsAgree ending ∧
    ∃ x, trialIn ending.recovery .primary = some x ∧ x.state = .running ∧ x.remaining = 0 :=
  ⟨rfl, rfl, ending_trialsAgree, _, rfl, rfl, rfl⟩

/-- The counters at 0, at 2 and at their bound, a readback that differs, the image as frozen, and both sides of
FAILSAFE. -/
theorem witness_ReadbackAndIntegrityStopTheDrive :
    driving.time.held = false ∧ driving.permit.mismatch.get .rear = 0 ∧ Running { driving with osc.integrity := some 0 } ∧
    (let s := { driving with permit.mismatch := { front := 2, rear := 3 } }
     s.permit.mismatch.get .front = 2 ∧ s.permit.mismatch.get .rear = 3 ∧
     (false != drivenLevel s.permit.outputs .front) = true) ∧
    driving.osc.part ≠ .failsafe ∧ stopped.osc.part = .failsafe := by
  unfold Running; decide +kernel

/-- A LEVEL line before and at the end of its runs (N = 4), an EDGE line, and a line that is not enabled. -/
theorem witness_LinesFilterAndReport :
    let f := fun (q : Bool) (n : Nat) => ({ qualified := q, run := n, reference := none } : LineFilter)
    let s := lined 0x31 (f false 2)
    let v := lineConfig s.osc.image .fl0
    s.time.held = false ∧ Running s ∧ v.enabled = true ∧ v.mode = .level ∧ v.filter = 4 ∧ true = !v.low ∧
    (f false 2).run + 1 < v.filter ∧ (f false 3).run + 1 = v.filter ∧
    (let w := lineConfig (lined 0x33 (f false 0)).osc.image .fl0
     w.enabled = true ∧ w.mode = .edge ∧ true = !w.low) ∧
    (lineConfig driving.osc.image .fl0).enabled = false ∧ ¬Running State.reset := by
  unfold Running; decide +kernel

/-- RUN and FAILSAFE, with a frozen digest. -/
theorem witness_ClockAndInputsAreTaken :
    driving.time.held = false ∧ driving.osc.part ≠ .failsafe ∧ driving.osc.frozen.isSome = true ∧
    stopped.time.held = false ∧ stopped.osc.part = .failsafe := by decide +kernel

/-- The cases of Table 5.1: a tightening to the target, to another value, the same value, and a loosening; a dwell time of
0; and a dwell at its end. -/
theorem witness_PublishingFollowsTheTable :
    let t := fun s : State => targetOf s.osc.image s.map.health s.unit.floors s.table.overflow
    let u := { driving with unit.floors.ride := some .limp }
    let w := { driving with unit.envelope := { rearOnly.unit.envelope with severity := 0 }, map.health.frontPower := .trial }
    let z := { driving with osc.image := putEntry factoryImage .glob 0 [0xE8, 3, 0, 0, 20, 0xF4, 1] }
    driving.osc.part = .run ∧ (globalConfig driving.osc.image).dwell ≠ 0 ∧ State.reset.osc.part ≠ .run ∧
    (u.unit.envelope.tighter (t u).env ≠ u.unit.envelope ∧ u.unit.envelope.tighter (t u).env = (t u).env) ∧
    (w.unit.envelope.tighter (t w).env ≠ w.unit.envelope ∧ w.unit.envelope.tighter (t w).env ≠ (t w).env) ∧
    (driving.unit.envelope.tighter (t driving).env = driving.unit.envelope ∧ driving.unit.envelope = (t driving).env) ∧
    (let x := { driving with unit.envelope := rearOnly.unit.envelope }
     x.unit.envelope.tighter (t x).env = x.unit.envelope ∧ x.unit.envelope ≠ (t x).env) ∧
    (globalConfig z.osc.image).dwell = 0 ∧ z.osc.part = .run ∧
    ({ driving with unit.dwell := some 0 } : State).unit.dwell = some 0 := by decide +kernel

/-- A value that differs from the envelope, without and with a PRIMARY trial. -/
theorem witness_EnvelopeChangesHaveTheirEffects :
    rearOnly.unit.envelope ≠ driving.unit.envelope ∧ driving.recovery.primary = none ∧
    safeStop ≠ ending.unit.envelope ∧ ending.recovery.primary.isSome = true := by decide +kernel

/-- A state with overflow set, and a command that is no reset. -/
theorem witness_OverflowDemandsSafeStop :
    let s := { driving with table.overflow := true }
    s.table.overflow = true ∧ isReset .svcAsserted = false ∧
    exec .svcAsserted s = .next { s with osc.svc := true } := ⟨rfl, rfl, rfl⟩

/-- A report by a port. -/
def frontReport (e : Element) (c : FaultClass) : FaultReport :=
  { element := e, cls := c, origin := .front, detail := some 0x00D2, line := none, startVote := false }

/-- CONFIG; a report into a CONFIRMED record, into a SUSPECT one that stays so, and one without a record. -/
theorem witness_ReportsAreScored :
    ¬Running State.reset ∧ Running rearOnly ∧ TableWellFormed rearOnly ∧
    (recordOf rearOnly .frontPower .overcurrent).any (·.state == .confirmed) = true ∧
    (let s := { driving with table.records := [suspect .frontMotor .overtemperature 32 .front] }
     TableWellFormed s ∧ (recordOf s .frontMotor .overtemperature).any (fun x =>
       x.state == .suspect && decide (min 255 (x.score + 32) < (classParams s.osc.image .overtemperature).confirm)) = true ∧
     (classParams s.osc.image .overtemperature).corroboration < 2 ∧ s.map.health.get .frontMotor ≠ .trial) ∧
    recordOf driving .frontMotor .stall = none ∧ driving.table.records.length < 32 ∧
    min 255 64 < (classParams driving.osc.image .stall).confirm := by
  unfold Running TableWellFormed; decide +kernel

/-- A full table: 31 CONFIRMED records of pairs of their own, and a last one, SUSPECT or not. -/
def full (last : RecordState) : State :=
  { driving with
    table.records := (List.range 31).map (fun n =>
        confirmed ((elementOf (natByte (n / 7))).getD .rideCtl)
          ([FaultClass.overcurrent, .overtemperature, .sensorImplausible, .supplyRange, .stall, .lossOfContact].getD
            (n % 7) .frameIntegrity) .monitor) ++ [{ suspect .brake .stall 64 .ride with state := last }] }

/-- A second report of 48 on (E1, C2); a start-vote report without a record; and a line report on a full table with a
SUSPECT record, without a record of its own. -/
theorem witness_ConfirmationsSetTheHealth :
    let s := { driving with table.records := [suspect .frontMotor .sensorImplausible 48 .front] }
    Running s ∧ TableWellFormed s ∧ s.map.health.get .frontMotor ≠ .trial ∧
    (recordOf s .frontMotor .sensorImplausible).any (fun x => x.state == .suspect &&
      decide ((classParams s.osc.image .sensorImplausible).confirm ≤
        raisedScore (classParams s.osc.image .sensorImplausible) (frontReport .frontMotor .sensorImplausible) x.score)) =
      true ∧
    recordOf starting .rearCtl .lossOfContact = none ∧ starting.table.records.length < 32 ∧ Running starting ∧
    (classParams starting.osc.image .lossOfContact).confirm ≤
      raisedScore (classParams starting.osc.image .lossOfContact) (startVoteReport .rear) 0 ∧
    Running (full .suspect) ∧ TableWellFormed (full .suspect) ∧ (full .suspect).map.health.get .rideCtl ≠ .trial ∧
    recordOf (full .suspect) .rideCtl .stall = none ∧ (∃ y ∈ (full .suspect).table.records, y.state = .suspect) ∧
    (classParams (full .suspect).osc.image .stall).confirm ≤ raisedScore (classParams (full .suspect).osc.image .stall)
      { frontReport .rideCtl .stall with origin := .lines, line := some .fl0 } 0 := by
  unfold Running TableWellFormed; decide +kernel

/-- A full table with a SUSPECT record, and one without. -/
theorem witness_FullTablesEvictOrOverflow :
    (∃ x ∈ (full .suspect).table.records, x.state = .suspect) ∧ TableWellFormed (full .suspect) ∧ Running (full .suspect) ∧
    (full .suspect).table.records.length = 32 ∧ recordOf (full .suspect) .rideCtl .stall = none ∧
    (full .suspect).map.health.get .rideCtl ≠ .trial ∧
    shouldConfirm (classParams factoryImage .stall) (full .suspect).map.health
      (newRecord (classParams factoryImage .stall) (frontReport .rideCtl .stall) 50000) = false ∧
    (∀ y ∈ (full .confirmed).table.records, y.state = .confirmed) ∧ (full .confirmed).table.records.length = 32 ∧
    recordOf (full .confirmed) .rideCtl .stall = none := by
  unfold Running TableWellFormed; decide +kernel

/-- A controller that goes out, one that returns, and a claim that changes nothing. -/
theorem witness_ClaimsHandOutTheirEffects :
    driving.map.health.get .rearCtl = .inService ∧ driving.map.health.get .rearCtl ≠ .isolated ∧
    (!isOut (driving.map.health.get .rearCtl) && isOut .isolated) = true ∧ controllerOf .rear = .rearCtl ∧
    (let s := hurt .rearCtl .isolated .lossOfContact driving
     s.map.health.get .rearCtl ≠ .trial ∧ (isOut (s.map.health.get .rearCtl) && !isOut .trial) = true) ∧
    driving.osc.part = .run ∧ (globalConfig driving.osc.image).dwell ≠ 0 ∧
    (globalConfig (putEntry factoryImage .glob 0 [0xE8, 3, 0, 0, 20, 0xF4, 1])).dwell = 0 ∧ starting.osc.part ≠ .run := by
  decide +kernel

/-- An isolated element with both slots empty, and one with PRIMARY held by another group. -/
theorem witness_TrialStartsAreTaken :
    rearOnly.map.health.get .frontPower = .isolated ∧ slotFor rearOnly.recovery .frontPower = .ok .primary ∧
    rearOnly.recovery.ballot = none ∧ (slotted .rearPower .suspended).map.health.get .frontPower = .isolated ∧
    slotFor (slotted .rearPower .suspended).recovery .frontPower = .ok .nested ∧
    (slotted .rearPower .suspended).recovery.ballot = none :=
  ⟨by decide +kernel, rfl, rfl, by decide +kernel, rfl, rfl⟩

/-- An element in TRIAL, with an empty table. -/
theorem witness_ReportsFailTrials :
    ending.osc.part = .run ∧ TableWellFormed ending ∧ TrialsAgree ending ∧ HealthMatchesTable ending ∧
    ending.map.health.get (frontReport .frontPower .overcurrent).element = .trial := by
  refine ⟨rfl, ⟨by decide, by decide⟩, ending_trialsAgree, ?_, by decide⟩
  unfold HealthMatchesTable HasConfirmed; intro e; cases e <;> decide +kernel

/-! ### Invariants, with a step from a state that meets them -/

/-- A state with a millisecond tick at the front of its queue. -/
def ticking (s : State) : State := { s with pending := [.millisecondTick] }

theorem witness_StepKeepsTheEnvelope :
    EnvelopeHolds (ticking rearOnly) ∧ step (ticking rearOnly) = .next (after .millisecondTick rearOnly) :=
  ⟨by unfold EnvelopeHolds NoLooser StoppedOutsideRun; decide +kernel, rfl⟩

theorem witness_StepKeepsTheOutputs :
    OutputsAgree (ticking rearOnly) ∧ LatchesHold (ticking rearOnly) ∧
    step (ticking rearOnly) = .next (after .millisecondTick rearOnly) := by
  refine ⟨by unfold OutputsAgree; decide +kernel, ?_, rfl⟩
  intro d; cases d <;> decide +kernel

theorem witness_StepKeepsOutOfServicePortsBare :
    FloorsInService (ticking voting) ∧ SupervisedInService (ticking voting) ∧ BallotAsksInService (ticking voting) ∧
    step (ticking voting) = .next (after .millisecondTick voting) := by
  refine ⟨?_, ?_, ?_, rfl⟩
  · intro p; cases p <;> decide +kernel
  · intro p; cases p <;> decide +kernel
  · intro b h
    obtain rfl := Option.some.inj (show some _ = some b from h)
    refine ⟨?_, ?_, by decide +kernel⟩ <;> intro p <;> cases p <;> decide +kernel

theorem witness_StepKeepsTheTable :
    TableWellFormed (ticking rearOnly) ∧ RecordsAgree (ticking rearOnly) ∧
    step (ticking rearOnly) = .next (after .millisecondTick rearOnly) :=
  ⟨by unfold TableWellFormed; decide +kernel, by unfold RecordsAgree RecordFieldsAgree; decide +kernel, rfl⟩

theorem witness_StepKeepsHealthInStepWithTheTable :
    TableWellFormed (ticking rearOnly) ∧ ConfigIsClean (ticking rearOnly) ∧ HealthMatchesTable (ticking rearOnly) ∧
    (∀ k b, (ticking rearOnly).pending.head? ≠ some (.configurationImageCorruption k b)) ∧
    step (ticking rearOnly) = .next (after .millisecondTick rearOnly) := by
  refine ⟨by unfold TableWellFormed; decide +kernel, fun h => absurd h (by decide), ?_, fun _ _ => by simp [ticking], rfl⟩
  unfold HealthMatchesTable HasConfirmed; intro e; cases e <;> decide +kernel

theorem witness_StepKeepsSuspectScoresBetween :
    let s := ticking { driving with table.records := [suspect .frontCtl .overcurrent 64 .rear] }
    ImageLength s ∧ ConfigIsClean s ∧ ClassesAgree s ∧ SuspectScoresBetween s ∧ TableWellFormed s ∧
    (∀ k b, s.pending.head? ≠ some (.configurationImageCorruption k b)) ∧ ∃ t, step s = .next t := by
  refine ⟨by unfold ImageLength; decide +kernel, fun h => absurd h (by decide), ?_,
    by unfold SuspectScoresBetween; decide +kernel, by unfold TableWellFormed; decide +kernel,
    fun _ _ => by simp [ticking], _, rfl⟩
  intro c; cases c <;> decide +kernel

theorem witness_StepKeepsTheRecovery :
    NoRecoveryBeforeRun (ticking ending) ∧ TrialsAgree (ticking ending) ∧ RetainedLockedOut (ticking ending) ∧
    step (ticking ending) = .next (after .millisecondTick ending) := by
  refine ⟨fun h => absurd h (by decide), ⟨slotsAgree_of_nested_none rfl, ?_,
    fun b h => nomatch (show none = some b from h)⟩, fun _ => ?_, rfl⟩
  · intro e; rw [inFlight_iff]; cases e <;> decide +kernel
  · intro e; cases e <;> decide +kernel

theorem witness_StepKeepsTheController :
    ArmOnlyInConfig (ticking stopped) ∧ ControllerAgrees (ticking stopped) ∧ ImageLength (ticking stopped) ∧
    HeldIsQuiet (ticking stopped) ∧ CountersBounded (ticking stopped) ∧ RepliesAgree (ticking stopped) ∧
    step (ticking stopped) = .next (after .millisecondTick stopped) := by
  refine ⟨by unfold ArmOnlyInConfig; decide +kernel, by unfold ControllerAgrees; decide +kernel,
    by unfold ImageLength; decide +kernel, by unfold HeldIsQuiet; decide +kernel, ?_, ?_, rfl⟩
  · intro d; cases d <;> decide +kernel
  · intro p; cases p <;> decide +kernel

theorem witness_StepKeepsTheDeadlines :
    let s := ticking { driving with unit.adoption.rear := { adopted 5 with pending := true, deadline := some 9 } }
    NoRecoveryBeforeRun s ∧ PendingHasDeadline s ∧ NothingPendingBeforeRun s ∧ DwellAgrees s ∧ ∃ t, step s = .next t := by
  refine ⟨fun h => absurd h (by decide), fun _ => ?_, fun h => absurd h (by decide),
    by unfold DwellAgrees; decide +kernel, _, rfl⟩
  intro d; cases d <;> decide +kernel

theorem witness_StepKeepsOverflowStopped :
    let s := ticking { driving with
      table.overflow := true
      unit.target := targetOf factoryImage driving.map.health driving.unit.floors true
      unit.envelope := safeStop }
    EnvelopeHolds s ∧ DwellAgrees s ∧ OverflowStops s ∧ s.table.overflow = true ∧ isReset .millisecondTick = false ∧
    (∃ t, step s = .next t) ∧ ∃ t, exec .millisecondTick s = .next t :=
  ⟨by unfold EnvelopeHolds NoLooser StoppedOutsideRun; decide +kernel, by unfold DwellAgrees; decide +kernel,
    by unfold OverflowStops; decide +kernel, rfl, rfl, ⟨_, rfl⟩, _, rfl⟩

/-! ### Rules of the whole machine -/

theorem witness_GenerationNamesTheEnvelope :
    isReset (.readbackMismatch { drive := .front, other := true }) = false ∧
    exec (.readbackMismatch { drive := .front, other := true }) { driving with permit.mismatch.front := 2 } =
      .next (after (.readbackMismatch { drive := .front, other := true }) { driving with permit.mismatch.front := 2 }) := ⟨rfl, rfl⟩

theorem witness_FailsafeFreezesThePart :
    stopped.osc.part = .failsafe ∧ isReset (.checkIn .ride) = false ∧ isCorruption (.checkIn .ride) = false ∧
    exec (.checkIn .ride) stopped = .next (after (.checkIn .ride) stopped) := ⟨by decide +kernel, rfl, rfl, rfl⟩

/-- RUN with a locked-out element and its CONFIRMED record. -/
theorem witness_NothingIsForgottenBeforeAReset :
    let s := hurt .frontPower .lockedOut .overcurrent driving
    s.osc.part ≠ .config ∧ s.map.health.get .frontPower = .lockedOut ∧ TrialsAgree s ∧
    s.table.records.any (·.state == .confirmed) = true ∧ isReset .millisecondTick = false ∧
    exec .millisecondTick s = .next (after .millisecondTick s) := by
  refine ⟨by decide +kernel, by decide +kernel, ⟨slotsAgree_of_nested_none rfl, ?_,
    fun b h => nomatch (show none = some b from h)⟩, by decide +kernel, rfl, rfl⟩
  intro e; rw [inFlight_iff]; cases e <;> decide +kernel

/-- RUN with REAR's permit low, and the ADOPT that raises it. -/
theorem witness_OnlyAdoptRaisesADrivePermit :
    let s := { driving with
      unit.adoption.rear := { adopted 5 with latch := false, pending := true, deadline := some 9 }
      permit.outputs.rearEn := false }
    OutputsAgree s ∧ LatchesHold s ∧ exec (.adopt .rear 6) s = .next (after (.adopt .rear 6) s) ∧
    drivenLevel s.permit.outputs .rear = false ∧
    drivenLevel (after (.adopt .rear 6) s).permit.outputs .rear = true := by
  refine ⟨by unfold OutputsAgree; decide +kernel, ?_, rfl, by decide +kernel, by decide +kernel⟩
  intro d; cases d <;> decide +kernel

/-- A WRITE_CONFIG that changes the image, and a SERVICE_CLEAR that unlocks an entry. -/
theorem witness_ConfigurationAndLockoutsAreGuarded :
    exec (.writeConfig .ride 6 1 [60]) State.reset = .next (after (.writeConfig .ride 6 1 [60]) State.reset) ∧
    (after (.writeConfig .ride 6 1 [60]) State.reset).osc.image ≠ State.reset.osc.image ∧
    isReset (.writeConfig .ride 6 1 [60]) = false ∧
    (let s := { State.reset with
       osc.svc := true
       osc.arm := true
       retained.entries.brake := { locked := true, cls := some .stall, keyCycle := some 0, lockCount := 1 } }
     (s.retained.entries.get .brake).locked = true ∧
     ((after (.serviceClear .ride 9) s).retained.entries.get .brake).locked = false) :=
  ⟨rfl, by decide +kernel, rfl, by decide +kernel⟩

end Sys2Proof.Tests
end

section
/-! The state after reset (O3, O4): its values, and the invariants that it meets. -/

namespace Sys2Proof.Machine

/-- Settles O3, by evaluation of the state after reset. -/
theorem resetGivesTheResetValues : Obligations.ResetGivesTheResetValues := by
  unfold Obligations.ResetGivesTheResetValues
  refine ⟨rfl, rfl, rfl, rfl, rfl, ?health, ?lines, ?ports, ?limits, ?matched, rfl, rfl, rfl, rfl, rfl, ?adoption, rfl,
    ?mismatch, rfl, ?retained, rfl, ?image, rfl, ?started, rfl, rfl, rfl, rfl, rfl, ?links⟩
  case health => intro e; cases e <;> decide +kernel
  case lines => intro l; cases l <;> rfl
  case ports => intro p; cases p <;> exact ⟨rfl, rfl⟩
  case limits => decide +kernel
  case matched => decide +kernel
  case adoption => intro d; cases d <;> rfl
  case mismatch => intro d; cases d <;> rfl
  case retained => intro e; cases e <;> rfl
  case image => decide +kernel
  case started => intro p; cases p <;> rfl
  case links => intro p; cases p <;> exact ⟨rfl, rfl, rfl, rfl⟩

theorem reset_health (e : Element) : State.reset.map.health.get e = .inService := by cases e <;> rfl

theorem reset_portInService (p : Port) : portInService State.reset p = true := by cases p <;> rfl

theorem reset_adoption (d : DrivePort) : State.reset.unit.adoption.get d = AdoptionRecord.reset := by cases d <;> rfl

/-- The factory image passes the cross-field checks of its classes (Table 2.3, Table 10.6). -/
theorem reset_classesAgree : ClassesAgree State.reset := by
  intro c; cases c <;> decide +kernel

theorem reset_envelopeHolds : EnvelopeHolds State.reset := by
  refine ⟨?_, fun _ => rfl, by decide +kernel, by decide +kernel⟩
  unfold NoLooser
  decide +kernel

theorem reset_trialsAgree : TrialsAgree State.reset := by
  refine ⟨fun n h => (nomatch h), fun e => ?_, fun b h => (nomatch h)⟩
  rw [reset_health]
  constructor
  · intro h; cases h
  · rintro (⟨t, h, -⟩ | ⟨t, h, -⟩) <;> cases h

/-- Settles O4: in CONFIG with nothing recorded, latched, open or pending, every invariant holds. -/
theorem resetMeetsTheInvariants : Obligations.ResetMeetsTheInvariants := by
  unfold Obligations.ResetMeetsTheInvariants
  refine ⟨reset_envelopeHolds, rfl, ?latches, fun p _ => reset_portInService p, fun p _ => reset_portInService p,
    fun b h => (nomatch h), ⟨by decide, List.Pairwise.nil⟩, fun x hx => (nomatch hx), fun _ => ⟨rfl, reset_health⟩,
    ?healthAgrees, reset_classesAgree, fun x hx => (nomatch hx), fun _ => ⟨rfl, rfl, rfl, ?noTrial⟩, reset_trialsAgree,
    fun h => (nomatch h), fun h => (nomatch h), ?controller, by unfold ImageLength; decide +kernel,
    fun h => (nomatch h), ?counters, ?replies, fun h => (nomatch h), ?pending, ⟨fun h => (nomatch h), fun _ => rfl⟩,
    fun h => (nomatch h)⟩
  case latches => intro d h; rw [reset_adoption] at h; cases h
  case healthAgrees =>
    intro e
    rw [reset_health]
    exact ⟨fun h => (nomatch h), fun h => (nomatch h), fun _ x hx => (nomatch hx)⟩
  case noTrial => intro e; rw [reset_health]; decide
  case controller => exact ⟨by decide, by decide, fun _ => rfl, by decide⟩
  case counters => intro d; cases d <;> decide
  case replies => intro p; cases p <;> decide
  case pending => intro _ d; rw [reset_adoption]; exact ⟨rfl, rfl⟩

end Sys2Proof.Machine
end

section
/-! READ_ELEMENT and READ_RETAINED (O11), and WRITE_CONFIG with its checks and effects (O26). -/

namespace Sys2Proof.Machine

/-- One flag in a byte is bit 0. -/
theorem flagByte_singleton (b : Bool) : flagByte [b] = if b then 1#8 else 0#8 := by cases b <;> rfl

/-- A two-byte number of a payload, read back low byte first. -/
theorem high_append_low_ofNat (n : Nat) :
    highByte (BitVec.ofNat 16 n) ++ lowByte (BitVec.ofNat 16 n) = BitVec.ofNat 16 n :=
  byte_append_halfBytes _

theorem readElement_known {n : Byte} {e : Element} (h : elementOf n = some e) (s : State) :
    readElement n s =
      accept [n, natByte (healthCode (s.map.health.get e)), natByte (s.map.budget.get e),
        natByte (elementConfig s.osc.image e).budget, flagByte [(s.retained.entries.get e).locked],
        natByte (recordsOf s.table.records e)] s := by
  simp only [readElement, h]

theorem readElement_unknown {n : Byte} (h : elementOf n = none) (s : State) : readElement n s = refuse .range s := by
  simp only [readElement, h]

/-- The eight bytes that READ_RETAINED answers for an entry (R157, Table 11.5). -/
def retainedBytes (n : Byte) (v : RetainedEntry) (keyCycles : Nat) : List Byte :=
  [n, flagByte [v.locked, v.cls.isSome, v.keyCycle.isSome], natByte ((v.cls.map classCode).getD 0)] ++
    natBytes (v.keyCycle.getD 0) ++ [natByte v.lockCount] ++ natBytes keyCycles

theorem readRetained_known {n : Byte} {e : Element} (h : elementOf n = some e) (s : State) :
    readRetained n s = accept (retainedBytes n (s.retained.entries.get e) s.retained.keyCycles) s := by
  simp only [readRetained, h]
  rfl

theorem readRetained_unknown {n : Byte} (h : elementOf n = none) (s : State) : readRetained n s = refuse .range s := by
  simp only [readRetained, h]

/-- What the eight bytes of a retained entry show, field by field. -/
theorem retainedBytes_shows (n : Byte) (v : RetainedEntry) (k : Nat) :
    let b := retainedBytes n v k
    b.length = 8 ∧ byteAt b 0 = n ∧ (byteAt b 1).getLsbD 0 = v.locked ∧ (byteAt b 1).getLsbD 1 = v.cls.isSome ∧
    (byteAt b 1).getLsbD 2 = v.keyCycle.isSome ∧ (byteAt b 1).extractLsb' 3 5 = 0#5 ∧
    byteAt b 2 = (match v.cls with | none => 0#8 | some c => BitVec.ofNat 8 (classCode c)) ∧
    word16At b 3 = BitVec.ofNat 16 (v.keyCycle.getD 0) ∧ byteAt b 5 = BitVec.ofNat 8 v.lockCount ∧
    word16At b 6 = BitVec.ofNat 16 k := by
  obtain ⟨locked, cls, keyCycle, lockCount⟩ := v
  have flags : byteAt (retainedBytes n ⟨locked, cls, keyCycle, lockCount⟩ k) 1 =
      flagByte [locked, cls.isSome, keyCycle.isSome] := rfl
  refine ⟨rfl, rfl, ?_, ?_, ?_, ?_, ?_, ?_, rfl, ?_⟩
  · rw [flags, flagByte_getLsbD]; rfl
  · rw [flags, flagByte_getLsbD]; rfl
  · rw [flags, flagByte_getLsbD]; rfl
  · rw [flags]
    cases locked <;> cases cls.isSome <;> cases keyCycle.isSome <;> rfl
  · cases cls <;> rfl
  · exact high_append_low_ofNat _
  · exact high_append_low_ofNat _

/-- Settles O11: each request's meaning for a known and an unknown element, and the bytes read back. -/
theorem readElementAndRetained : Obligations.ReadElementAndRetained := by
  unfold Obligations.ReadElementAndRetained
  intro p n s hL r q
  refine ⟨?_, ?_, fun hn => ⟨?_, ?_⟩⟩
  · intro e hn
    have he : elementOf n = some e := hn ▸ elementOf_elementCode e
    refine answered_of_act hL rfl (by simp) rfl ((readElement_known he _).trans ?_)
    rw [flagByte_singleton, recordsOf, List.countP_eq_length_filter]
    rfl
  · intro e hn v
    have he : elementOf n = some e := hn ▸ elementOf_elementCode e
    obtain ⟨t, ht, ha⟩ := answered_of_act (i := .readRetained p n) hL rfl (by simp) rfl (readRetained_known he q)
    exact ⟨_, t, ht, ha, retainedBytes_shows n v s.retained.keyCycles⟩
  · exact answered_of_act hL rfl (by simp) rfl (readElement_unknown (elementOf_of_lt hn) r)
  · exact answered_of_act hL rfl (by simp) rfl (readRetained_unknown (elementOf_of_lt hn) q)

/-! ### WRITE_CONFIG -/

theorem lengthAllowed_writeConfig {entry : List Byte} (h1 : 1 ≤ entry.length) (h7 : entry.length ≤ 7) (k n : Byte) :
    (k :: n :: entry).length ≤ 24 ∧ lengthAllowed 0x41#8 (k :: n :: entry).length = true := by
  have hc : codeLengths 0x41#8 = some [3, 4, 5, 6, 7, 8, 9] := rfl
  simp only [List.length_cons, lengthAllowed, hc, List.contains_eq_mem, decide_eq_true_eq]
  refine ⟨by omega, ?_⟩
  simp only [List.mem_cons]
  omega

/-- The checks of WRITE_CONFIG that CONFIG and the configuration port leave over (Table 10.5, checks 4 to 6). -/
theorem writeConfig_range {p : Port} {kb n : Byte} {entry : List Byte} {s : State} (hc : s.osc.part = .config)
    (hp : p = s.osc.configPort)
    (h : ∀ k, sectOf kb = some k → n.toNat < sectCount k → fieldsInRange k entry = true →
      crossFields k entry = false) : writeConfig p kb n entry s = refuse .range s := by
  unfold writeConfig
  cases hk : sectOf kb with
  | none => simp [hc, hp]
  | some k =>
    by_cases hn : n.toNat < sectCount k
    · cases hf : fieldsInRange k entry with
      | false => simp [hc, hp, hf]
      | true => simp [hc, hp, h k hk hn hf]
    · simp [hc, hp, Nat.not_lt.mp hn]

theorem writeConfig_accepted {p : Port} {kb n : Byte} {entry : List Byte} {s : State} {k : Sect}
    (hc : s.osc.part = .config) (hp : p = s.osc.configPort) (hk : sectOf kb = some k) (hn : n.toNat < sectCount k)
    (hf : fieldsInRange k entry = true) (hx : crossFields k entry = true) :
    writeConfig p kb n entry s = accept [] (acceptWrite k n.toNat entry s) := by
  simp [writeConfig, hc, hp, hk, Nat.not_le.mpr hn, hf, hx]

/-- An entry that stands within the image is read back whole after it has been put there. -/
theorem entryAt_putEntry {image entry : List Byte} {k : Sect} {i : Nat} (hl : entry.length = sectLength k)
    (hi : entryOffset k i ≤ image.length) : entryAt (putEntry image k i entry) k i = entry := by
  have ht : (image.take (entryOffset k i)).length = entryOffset k i := by simp [hi]
  unfold entryAt putEntry
  rw [List.append_assoc, List.drop_append_of_le_length (Nat.le_of_eq ht.symm), List.drop_of_length_le (Nat.le_of_eq ht),
    List.nil_append, List.take_append_of_le_length (Nat.le_of_eq hl.symm), List.take_of_length_le (Nat.le_of_eq hl)]

theorem length_of_fieldsInRange {k : Sect} {b : List Byte} (h : fieldsInRange k b = true) : b.length = sectLength k := by
  simp only [fieldsInRange, Bool.and_eq_true, beq_iff_eq] at h
  exact h.1

theorem allElements_elementCode (e : Element) : allElements[elementCode e]? = some e := by cases e <;> rfl

/-- The configured budget after an ELEMENT entry has been written is the entry's third byte (R165, Table 11.9). -/
theorem budget_putEntry {image entry : List Byte} {e : Element} (hl : image.length = imageLength)
    (hf : fieldsInRange .element entry = true) :
    (elementConfig (putEntry image .element (elementCode e) entry) e).budget = (byteAt entry 2).toNat := by
  have hi : entryOffset .element (elementCode e) ≤ image.length := by
    rw [hl]
    cases e <;> decide
  unfold elementConfig
  rw [entryAt_putEntry (length_of_fieldsInRange hf) hi]
  rfl

/-- Settles O26: the four refusals in the order of Table 10.5, and the effects of R165 by section. -/
theorem writeConfigIsCheckedAndTaken : Obligations.WriteConfigIsCheckedAndTaken := by
  unfold Obligations.WriteConfigIsCheckedAndTaken
  intro p kb n entry s hL h1 h7 i
  obtain ⟨hlen, hall⟩ := lengthAllowed_writeConfig h1 h7 kb n
  have refused : ∀ st, writeConfig p kb n entry (received p 0x41#8 (kb :: n :: entry) s) =
      refuse st (received p 0x41#8 (kb :: n :: entry) s) → Refused i st s :=
    fun st h => refused_of_act hL rfl rfl rfl hlen hall h
  refine ⟨fun hp => ?_, fun hp => ?_, fun hp hd => ?_, fun hp hd hk => ?_, ?_⟩
  · exact refused _ (by simp [writeConfig, hp])
  · exact refused _ (by rcases hp with hp | hp <;> simp [writeConfig, hp])
  · exact refused _ (by simp [writeConfig, hp, hd])
  · exact refused _ (writeConfig_range (by simp [hp]) (by simp [hd]) hk)
  · intro k hp hd hk hn hf hx r im
    have hr : r.osc.part = .config := by simp [r, hp]
    obtain ⟨t, ht, ha⟩ := answered_of_act (i := i) hL rfl hlen hall
      (writeConfig_accepted (s := r) hr (by simp [r, hd]) hk hn hf hx)
    refine ⟨_, t, ht, ha, ?_, ?_, ?_⟩
    · rintro (rfl | rfl | rfl | rfl | rfl) <;> rfl
    · rintro (rfl | rfl) <;> simp only [acceptWrite, afterWrite, recompute, hr] <;> rfl
    · rintro e rfl hne hlength
      have hb : (elementConfig (putEntry s.osc.image .element (elementCode e) entry) e).budget =
          (byteAt entry 2).toNat := budget_putEntry hlength hf
      simp only [acceptWrite, afterWrite, hne, allElements_elementCode]
      show setBudget e (elementConfig (putEntry s.osc.image .element (elementCode e) entry) e).budget _ = _
      rw [hb]
      simp only [im, hne]
      rfl

end Sys2Proof.Machine
end

section
/-! What a change of the envelope, a recompute of the target and the announcements of a claim do, each said once and field
by field (R15, R16, R78, R84, R87, R94). -/

namespace Sys2Proof.Machine

/-! ### Link ports and notices -/

/-- A port that differs from another in its notices alone. -/
theorem linkPort_eq_of_fields {v w : LinkPort} (h1 : v.receiver = w.receiver) (h2 : v.buffer = w.buffer)
    (h3 : v.lastError = w.lastError) (h4 : v.reply = w.reply) (h5 : v.overlapped = w.overlapped) :
    v = { w with notices := v.notices } := by
  cases v; cases w; simp_all

/-- An evaluation that finds the record as it left it posts nothing (R138). -/
@[simp] theorem evaluationNotice_self (x : Option Trial) (n : Option (Element × TrialOutcome)) :
    evaluationNotice x x n = n := by
  cases x <;> simp [evaluationNotice]

@[simp] theorem evaluationNotice_none_left (y : Option Trial) (n : Option (Element × TrialOutcome)) :
    evaluationNotice none y n = n := rfl

/-! ### A change of the envelope -/

/-- A change to the value that stands is none (R83). -/
theorem changeEnvelope_self {v : Envelope} {s : State} (h : v = s.unit.envelope) : changeEnvelope v s = s := if_pos h

theorem changeEnvelope_of_ne {v : Envelope} {s : State} (h : v ≠ s.unit.envelope) :
    changeEnvelope v s = updateOutputs (evaluatePrimary (adoptionRound (publishEnvelope v s))) := if_neg h

theorem clearForbidden_adoption (d k : DrivePort) (s : State) :
    (clearForbidden d s).unit.adoption.get k =
      if k = d then { s.unit.adoption.get k with latch := (s.unit.adoption.get k).latch && axleAllowed s.unit.envelope k }
      else s.unit.adoption.get k := by
  unfold clearForbidden
  by_cases hk : k = d
  · subst hk
    cases h : axleAllowed s.unit.envelope k <;> simp
  · cases h : axleAllowed s.unit.envelope d <;> simp [PerDrive.get_set, hk]

@[simp] theorem publishEnvelope_unit_envelope (v : Envelope) (s : State) : (publishEnvelope v s).unit.envelope = v := by
  simp [publishEnvelope]

@[simp] theorem publishEnvelope_unit_generation (v : Envelope) (s : State) :
    (publishEnvelope v s).unit.generation = s.unit.generation + 1 := by
  simp [publishEnvelope]

@[simp] theorem publishEnvelope_adoption (v : Envelope) (d : DrivePort) (s : State) :
    (publishEnvelope v s).unit.adoption.get d =
      { s.unit.adoption.get d with latch := (s.unit.adoption.get d).latch && axleAllowed v d } := by
  cases d <;> simp [publishEnvelope, clearForbidden_adoption]

@[simp] theorem publishEnvelope_ports (v : Envelope) (p : Port) (s : State) :
    (publishEnvelope v s).ports.get p =
      { s.ports.get p with
        notices := { (s.ports.get p).notices with envelope := some (s.unit.generation + 1) } } := by
  simp [publishEnvelope]

/-- A running timer goes on, one that is not running starts. -/
theorem startIfIdle_eq (t : Timer) (n : Nat) : startIfIdle t n = some (t.getD n) := by cases t <;> rfl

theorem adoptionRoundFor_adoption (d k : DrivePort) (s : State) :
    (adoptionRoundFor d s).unit.adoption.get k =
      if k = d ∧ portRequired s k = true then
        { s.unit.adoption.get k with
          pending := true
          deadline := some ((s.unit.adoption.get k).deadline.getD (globalConfig s.osc.image).adoption) }
      else s.unit.adoption.get k := by
  unfold adoptionRoundFor
  by_cases hk : k = d
  · subst hk
    cases h : portRequired s k <;> simp [startIfIdle_eq]
  · cases h : portRequired s d <;> simp [PerDrive.get_set, hk]

/-- The adoption round marks each required port pending and starts its deadline (R94). -/
theorem adoptionRound_adoption (d : DrivePort) (s : State) :
    (adoptionRound s).unit.adoption.get d =
      { s.unit.adoption.get d with
        pending := (s.unit.adoption.get d).pending || portRequired s d
        deadline := if portRequired s d then
            some ((s.unit.adoption.get d).deadline.getD (globalConfig s.osc.image).adoption)
          else (s.unit.adoption.get d).deadline } := by
  have hr : portRequired (adoptionRoundFor .front s) d = portRequired s d := by simp [portRequired, portInService]
  cases h : portRequired s d <;> cases d <;> simp [adoptionRound, adoptionRoundFor_adoption, hr, h]

@[simp] theorem changeEnvelope_unit_envelope (v : Envelope) (s : State) : (changeEnvelope v s).unit.envelope = v := by
  by_cases h : v = s.unit.envelope
  · rw [changeEnvelope_self h, h]
  · simp [changeEnvelope_of_ne h]

theorem changeEnvelope_unit_generation (v : Envelope) (s : State) :
    (changeEnvelope v s).unit.generation =
      if v = s.unit.envelope then s.unit.generation else s.unit.generation + 1 := by
  by_cases h : v = s.unit.envelope
  · rw [changeEnvelope_self h, if_pos h]
  · simp [changeEnvelope_of_ne h, h]

theorem changeEnvelope_adoption (v : Envelope) (d : DrivePort) (s : State) :
    (changeEnvelope v s).unit.adoption.get d =
      if v = s.unit.envelope then s.unit.adoption.get d
      else
        { s.unit.adoption.get d with
          pending := (s.unit.adoption.get d).pending || portRequired s d
          deadline := if portRequired s d then
              some ((s.unit.adoption.get d).deadline.getD (globalConfig s.osc.image).adoption)
            else (s.unit.adoption.get d).deadline
          latch := (s.unit.adoption.get d).latch && axleAllowed v d } := by
  by_cases h : v = s.unit.envelope
  · rw [changeEnvelope_self h, if_pos h]
  · have hr : portRequired (publishEnvelope v s) d = portRequired s d := by simp [portRequired, portInService]
    simp [changeEnvelope_of_ne h, h, adoptionRound_adoption, hr]

theorem changeEnvelope_outputs (v : Envelope) (s : State) :
    (changeEnvelope v s).permit.outputs =
      if v = s.unit.envelope then s.permit.outputs
      else outputsOf s.osc.part v (changeEnvelope v s).unit.adoption.front.latch
        (changeEnvelope v s).unit.adoption.rear.latch := by
  by_cases h : v = s.unit.envelope
  · rw [changeEnvelope_self h, if_pos h]
  · simp [changeEnvelope_of_ne h, h]

theorem changeEnvelope_primary (v : Envelope) (s : State) :
    (changeEnvelope v s).recovery.primary =
      if v = s.unit.envelope then s.recovery.primary
      else s.recovery.primary.map (evaluatedTrial s.recovery.nested v) := by
  by_cases h : v = s.unit.envelope
  · rw [changeEnvelope_self h, if_pos h]
  · simp [changeEnvelope_of_ne h, h, evaluatePrimary_primary]

/-- The link ports after an evaluation of the PRIMARY trial (R138, R144). -/
theorem evaluatePrimary_port (s : State) (p : Port) :
    (evaluatePrimary s).ports.get p =
      { s.ports.get p with
        notices :=
          { (s.ports.get p).notices with
            trial := evaluationNotice s.recovery.primary (evaluatePrimary s).recovery.primary
              (s.ports.get p).notices.trial } } := by
  rw [← evaluatePrimary_notices]
  exact linkPort_eq_of_fields (by simp) (by simp) (by simp) (by simp) (by simp)

/-- The link ports after a change of the envelope (R84). -/
theorem changeEnvelope_port (v : Envelope) (s : State) (p : Port) :
    (changeEnvelope v s).ports.get p =
      { s.ports.get p with
        notices :=
          { (s.ports.get p).notices with
            envelope := if v = s.unit.envelope then (s.ports.get p).notices.envelope
              else some (changeEnvelope v s).unit.generation
            trial := evaluationNotice s.recovery.primary (changeEnvelope v s).recovery.primary
              (s.ports.get p).notices.trial } } := by
  by_cases h : v = s.unit.envelope
  · rw [changeEnvelope_self h]
    simp [h]
  · simp [changeEnvelope_of_ne h, evaluatePrimary_port, h]

/-! ### A recompute of the target -/

/-- The envelope that the publishing step sets for the target that stands: none outside RUN, the target with a dwell time
of 0, and otherwise the tighter of the two, field by field (Table 5.1, R90). -/
def publishedEnvelope (s : State) : Envelope :=
  if s.osc.part ≠ .run then s.unit.envelope
  else if (globalConfig s.osc.image).dwell = 0 then s.unit.target.env
  else s.unit.envelope.tighter s.unit.target.env

/-- The dwell timer that the publishing step leaves (Table 5.1, R90). -/
def publishedDwell (s : State) : Timer :=
  let dwell := (globalConfig s.osc.image).dwell
  let tight := s.unit.envelope.tighter s.unit.target.env
  if s.osc.part ≠ .run then s.unit.dwell
  else if dwell = 0 then none
  else if tight ≠ s.unit.envelope then (if tight = s.unit.target.env then none else some dwell)
  else if s.unit.envelope = s.unit.target.env then none else some (s.unit.dwell.getD dwell)

/-- In RUN the publishing step is one change of the envelope behind one setting of the dwell timer. -/
theorem publish_eq {s : State} (hr : s.osc.part = .run) :
    publish s = changeEnvelope (publishedEnvelope s) (setDwell (publishedDwell s) s) := by
  have stands : s.unit.envelope.tighter s.unit.target.env = s.unit.envelope →
      ∀ t, setDwell t s = changeEnvelope (s.unit.envelope.tighter s.unit.target.env) (setDwell t s) :=
    fun ht t => (changeEnvelope_self (s := setDwell t s) ht).symm
  simp only [publish, publishedEnvelope, publishedDwell, hr, ne_eq, not_true, if_false, startIfIdle_eq]
  split_ifs
  · rfl
  · exact stands ‹_› _
  · exact stands ‹_› _
  · rfl
  · rfl

/-- A recompute is the target computed, and then at most one change of the envelope (R78, R79). -/
theorem recompute_eq (s : State) :
    recompute s = changeEnvelope (publishedEnvelope (computeTarget s))
      (setDwell (publishedDwell (computeTarget s)) (computeTarget s)) := by
  unfold recompute
  by_cases hr : s.osc.part = .run
  · rw [if_pos hr, publish_eq (by exact hr)]
  · rw [if_neg hr]
    have hv : publishedEnvelope (computeTarget s) = (computeTarget s).unit.envelope := if_pos hr
    have hd : publishedDwell (computeTarget s) = (computeTarget s).unit.dwell := if_pos hr
    rw [hv, hd]
    exact (changeEnvelope_self rfl).symm

@[simp] theorem recompute_unit_target (s : State) :
    (recompute s).unit.target = targetOf s.osc.image s.map.health s.unit.floors s.table.overflow := by
  simp [recompute_eq]

theorem recompute_unit_envelope (s : State) :
    (recompute s).unit.envelope = publishedEnvelope (computeTarget s) := by
  simp [recompute_eq]

theorem recompute_unit_dwell (s : State) : (recompute s).unit.dwell = publishedDwell (computeTarget s) := by
  simp [recompute_eq]

theorem recompute_unit_generation (s : State) :
    (recompute s).unit.generation =
      if (recompute s).unit.envelope = s.unit.envelope then s.unit.generation else s.unit.generation + 1 := by
  rw [recompute_eq, changeEnvelope_unit_generation, changeEnvelope_unit_envelope]
  rfl

theorem recompute_adoption (d : DrivePort) (s : State) :
    (recompute s).unit.adoption.get d =
      if (recompute s).unit.envelope = s.unit.envelope then s.unit.adoption.get d
      else
        { s.unit.adoption.get d with
          pending := (s.unit.adoption.get d).pending || portRequired s d
          deadline := if portRequired s d then
              some ((s.unit.adoption.get d).deadline.getD (globalConfig s.osc.image).adoption)
            else (s.unit.adoption.get d).deadline
          latch := (s.unit.adoption.get d).latch && axleAllowed (recompute s).unit.envelope d } := by
  simp only [recompute_eq, changeEnvelope_adoption, changeEnvelope_unit_envelope]
  rfl

theorem recompute_outputs (s : State) :
    (recompute s).permit.outputs =
      if (recompute s).unit.envelope = s.unit.envelope then s.permit.outputs
      else outputsOf s.osc.part (recompute s).unit.envelope (recompute s).unit.adoption.front.latch
        (recompute s).unit.adoption.rear.latch := by
  rw [recompute_eq, changeEnvelope_outputs, changeEnvelope_unit_envelope]
  rfl

theorem recompute_primary (s : State) :
    (recompute s).recovery.primary =
      if (recompute s).unit.envelope = s.unit.envelope then s.recovery.primary
      else s.recovery.primary.map (evaluatedTrial s.recovery.nested (recompute s).unit.envelope) := by
  rw [recompute_eq, changeEnvelope_primary, changeEnvelope_unit_envelope]
  rfl

/-- The link ports after a recompute (R84, R144). -/
theorem recompute_port (s : State) (p : Port) :
    (recompute s).ports.get p =
      { s.ports.get p with
        notices :=
          { (s.ports.get p).notices with
            envelope := if (recompute s).unit.envelope = s.unit.envelope then (s.ports.get p).notices.envelope
              else some (recompute s).unit.generation
            trial := evaluationNotice s.recovery.primary (recompute s).recovery.primary
              (s.ports.get p).notices.trial } } := by
  rw [recompute_eq, changeEnvelope_port, changeEnvelope_unit_envelope]
  rfl

end Sys2Proof.Machine
end

section
/-! What the announcements of a change of an element's health do, field by field, and with them a claim's effects (O43). -/

namespace Sys2Proof.Machine

/-! ### A ballot that is closed where a notice says so -/

/-- The ballot closed with the outcome of a notice, where there is one (R125, R126, R127). -/
def closedWith (n : Option (Element × TrialOutcome)) (s : State) : State := n.elim s fun n => closed n.1 n.2 s

theorem closedWith_ballot (n : Option (Element × TrialOutcome)) (s : State) :
    (closedWith n s).recovery.ballot = if n = none then s.recovery.ballot else none := by
  cases n <;> rfl

theorem closedWith_port (n : Option (Element × TrialOutcome)) (s : State) (p : Port) :
    (closedWith n s).ports.get p =
      { s.ports.get p with
        notices :=
          { (s.ports.get p).notices with
            ballot := if n.isSome then none else (s.ports.get p).notices.ballot
            trial := n.or (s.ports.get p).notices.trial } } := by
  cases n
  · rfl
  · cases p <;> rfl

@[simp] theorem closedWith_unit (n : Option (Element × TrialOutcome)) (s : State) : (closedWith n s).unit = s.unit := by
  cases n <;> rfl
@[simp] theorem closedWith_permit (n : Option (Element × TrialOutcome)) (s : State) :
    (closedWith n s).permit = s.permit := by
  cases n <;> rfl
@[simp] theorem closedWith_contact (n : Option (Element × TrialOutcome)) (s : State) :
    (closedWith n s).contact = s.contact := by
  cases n <;> rfl

/-- A ballot that asks a port which goes out is closed with the notice of R126, and any other stays open. -/
theorem voidIfAsked_eq_closedWith {e : Element} {p : Port} {before after : Health} (hp : portOf e = some p)
    (hb : isOut before = false) (ha : isOut after = true) (s : State) :
    voidIfAsked p s = closedWith (portOutNotice e before after s.recovery.ballot) s := by
  unfold voidIfAsked portOutNotice
  cases hballot : s.recovery.ballot with
  | none => rfl
  | some b =>
    have ht : takesOutVoter e before after b = b.consent.get p := by simp [takesOutVoter, hb, ha, hp]
    cases hc : b.consent.get p
    · simp [ht, hc, closedWith]
    · simp [ht, hc, closedWith, closeBallot_outcome hballot]

/-- A ballot that names an element is closed with the notice of R125, and any other stays open. -/
theorem voidIfNamed_eq_closedWith (e : Element) (s : State) :
    voidIfNamed e s =
      closedWith (if s.recovery.ballot.any (·.element == e) then some (e, .voided .confirmed) else none) s := by
  unfold voidIfNamed
  cases hballot : s.recovery.ballot with
  | none => rfl
  | some b =>
    by_cases he : b.element = e
    · simp [he, closedWith, closeBallot_outcome hballot]
    · simp [he, closedWith]

/-- No ballot is voided by a change that takes no port out. -/
theorem portOutNotice_of_stays {e : Element} {before after : Health}
    (h : portOf e = none ∨ isOut before = isOut after ∨ isOut after = false) (ballot : Option Ballot) :
    portOutNotice e before after ballot = none := by
  cases ballot with
  | none => rfl
  | some b =>
    have ht : takesOutVoter e before after b = false := by
      rcases h with h | h | h
      · simp [takesOutVoter, h]
      · cases ha : isOut after <;> simp [takesOutVoter, h, ha]
      · simp [takesOutVoter, h]
    simp [portOutNotice, ht]

/-! ### The announcements -/

theorem announce_out {e : Element} {p : Port} {before after : Health} (hp : portOf e = some p)
    (hb : isOut before = false) (ha : isOut after = true) (s : State) :
    announce e before after s = announceOut p s := by
  simp [announce, hp, hb, ha]

theorem announce_returned {e : Element} {p : Port} {before after : Health} (hp : portOf e = some p)
    (hb : isOut before = true) (ha : isOut after = false) (s : State) :
    announce e before after s = announceReturned p s := by
  simp [announce, hp, hb, ha]

theorem announce_idle {e : Element} {before after : Health} (h : portOf e = none ∨ isOut before = isOut after)
    (s : State) : announce e before after s = s := by
  rcases h with h | h
  · simp [announce, h]
  · cases hp : portOf e <;> cases ha : isOut after <;> simp [announce, hp, h, ha]

/-- The three ways an announcement can go: the port of a controller that goes out, of one that returns, or none. -/
theorem announce_trichotomy (e : Element) (before after : Health) :
    (∃ p, portOf e = some p ∧ isOut before = false ∧ isOut after = true) ∨
    (∃ p, portOf e = some p ∧ isOut before = true ∧ isOut after = false) ∨
    (portOf e = none ∨ isOut before = isOut after) := by
  cases hp : portOf e <;> cases isOut before <;> cases isOut after <;> simp

@[simp] theorem announceOut_floors (p : Port) (s : State) :
    (announceOut p s).unit.floors = s.unit.floors.set p none := by
  cases p <;> simp [announceOut, driveOf]

@[simp] theorem announceOut_contact (p : Port) (s : State) : (announceOut p s).contact = s.contact.set p none := by
  cases p <;> simp [announceOut, driveOf]

theorem announceOut_adoption (p : Port) (d : DrivePort) (s : State) :
    (announceOut p s).unit.adoption.get d =
      if portOfDrive d = p then
        { s.unit.adoption.get d with pending := false, deadline := none, latch := false }
      else s.unit.adoption.get d := by
  cases p <;> cases d <;> simp [announceOut, driveOf, dropAdoption, portOfDrive, PerDrive.get_set]

theorem announceOut_outputs (p : Port) (s : State) :
    (announceOut p s).permit.outputs =
      if driveOf p = none then s.permit.outputs
      else outputsOf s.osc.part s.unit.envelope (announceOut p s).unit.adoption.front.latch
        (announceOut p s).unit.adoption.rear.latch := by
  cases p <;> simp [announceOut, driveOf, dropAdoption]

/-- The state in which the announcement of a port that goes out comes to the open ballot. -/
theorem announceOut_eq_closedWith {e : Element} {p : Port} {before after : Health} (hp : portOf e = some p)
    (hb : isOut before = false) (ha : isOut after = true) (s : State) :
    ∃ u, announceOut p s = closedWith (portOutNotice e before after s.recovery.ballot) u ∧
      u.recovery = s.recovery ∧ u.ports = s.ports := by
  cases hd : driveOf p with
  | none =>
    refine ⟨setFloorOf p none (setContact p none s), ?_, rfl, rfl⟩
    simp only [announceOut, hd]
    exact voidIfAsked_eq_closedWith hp hb ha _
  | some d =>
    refine ⟨dropAdoption d (setFloorOf p none (setContact p none s)), ?_, rfl, rfl⟩
    simp only [announceOut, hd]
    exact voidIfAsked_eq_closedWith hp hb ha _

theorem announceReturned_contact {p : Port} {s : State} (h : portInService s p = true) :
    (announceReturned p s).contact =
      if s.contact.get p = none ∧ checkInValue s.osc.image p ≠ 0 then
        s.contact.set p (some (checkInValue s.osc.image p))
      else s.contact := by
  have hc : (announceReturned p s).contact = (supervise p s).contact := by cases p <;> rfl
  rw [hc, supervise_contact]
  simp only [h, and_true]
  simp only [and_comm]

theorem announceReturned_adoption (p : Port) (d : DrivePort) (s : State) :
    (announceReturned p s).unit.adoption.get d =
      if portOfDrive d = p then
        { s.unit.adoption.get d with pending := true, deadline := some (globalConfig s.osc.image).adoption }
      else s.unit.adoption.get d := by
  cases p <;> cases d <;> simp [announceReturned, driveOf, portOfDrive, PerDrive.get_set]

/-- An open ballot after an announcement: void where it asks a port that goes out (R126). -/
theorem announce_ballot (e : Element) (before after : Health) (s : State) :
    (announce e before after s).recovery.ballot =
      if portOutNotice e before after s.recovery.ballot = none then s.recovery.ballot else none := by
  rcases announce_trichotomy e before after with ⟨p, hp, hb, ha⟩ | ⟨p, hp, hb, ha⟩ | h
  · obtain ⟨u, hu, hr, -⟩ := announceOut_eq_closedWith hp hb ha s
    rw [announce_out hp hb ha, hu, closedWith_ballot, hr]
  · simp [announce_returned hp hb ha, portOutNotice_of_stays (.inr (.inr ha))]
  · simp [announce_idle h, portOutNotice_of_stays (h.imp_right .inl)]

/-- The link ports after an announcement (R126, R127). -/
theorem announce_port (e : Element) (before after : Health) (s : State) (q : Port) :
    (announce e before after s).ports.get q =
      { s.ports.get q with
        notices :=
          { (s.ports.get q).notices with
            ballot := if (portOutNotice e before after s.recovery.ballot).isSome then none
              else (s.ports.get q).notices.ballot
            trial := (portOutNotice e before after s.recovery.ballot).or (s.ports.get q).notices.trial } } := by
  rcases announce_trichotomy e before after with ⟨p, hp, hb, ha⟩ | ⟨p, hp, hb, ha⟩ | h
  · obtain ⟨u, hu, -, hports⟩ := announceOut_eq_closedWith hp hb ha s
    rw [announce_out hp hb ha, hu, closedWith_port, hports]
  · simp [announce_returned hp hb ha, portOutNotice_of_stays (.inr (.inr ha))]
  · simp [announce_idle h, portOutNotice_of_stays (h.imp_right .inl)]

/-- The port of a drive port is the port of an element exactly where the element is its controller (R2). -/
theorem portOfDrive_eq_iff {e : Element} {p : Port} (hp : portOf e = some p) (d : DrivePort) :
    portOfDrive d = p ↔ controllerOf (portOfDrive d) = e := by
  rw [← controllerOf_of_portOf hp]
  exact ⟨fun h => h ▸ rfl, controllerOf_injective⟩

/-- The adoption records after an announcement (R98). -/
theorem announce_adoption (e : Element) (before after : Health) (d : DrivePort) (s : State) :
    (announce e before after s).unit.adoption.get d =
      if controllerOf (portOfDrive d) ≠ e then s.unit.adoption.get d
      else if !isOut before && isOut after then
        { s.unit.adoption.get d with pending := false, deadline := none, latch := false }
      else if isOut before && !isOut after then
        { s.unit.adoption.get d with pending := true, deadline := some (globalConfig s.osc.image).adoption }
      else s.unit.adoption.get d := by
  rcases announce_trichotomy e before after with ⟨p, hp, hb, ha⟩ | ⟨p, hp, hb, ha⟩ | h
  · simp only [announce_out hp hb ha, announceOut_adoption, portOfDrive_eq_iff hp, hb, ha]
    split_ifs <;> simp_all
  · simp only [announce_returned hp hb ha, announceReturned_adoption, portOfDrive_eq_iff hp, hb, ha]
    split_ifs <;> simp_all
  · rw [announce_idle h]
    rcases h with h | h
    · have hd : controllerOf (portOfDrive d) ≠ e := fun hc => by simp [← hc] at h
      simp [hd]
    · cases ha : isOut after <;> simp [h, ha]

/-- The outputs after an announcement: updated where a drive port's controller goes out (R98, R103). -/
theorem announce_outputs (e : Element) (before after : Health) (s : State) :
    (announce e before after s).permit.outputs =
      if (!isOut before && isOut after) = true ∧ (e = .frontCtl ∨ e = .rearCtl) then
        outputsOf s.osc.part s.unit.envelope (announce e before after s).unit.adoption.front.latch
          (announce e before after s).unit.adoption.rear.latch
      else s.permit.outputs := by
  rcases announce_trichotomy e before after with ⟨p, hp, hb, ha⟩ | ⟨p, hp, hb, ha⟩ | h
  · rw [announce_out hp hb ha, announceOut_outputs]
    obtain rfl := controllerOf_of_portOf hp
    cases p <;> simp [driveOf, controllerOf, hb, ha]
  · simp [announce_returned hp hb ha, hb, ha]
  · rw [announce_idle h]
    rcases h with h | h
    · have he : ¬(e = .frontCtl ∨ e = .rearCtl) := by rintro (rfl | rfl) <;> simp [portOf] at h
      simp [he]
    · cases ha : isOut after <;> simp [h, ha]

end Sys2Proof.Machine
end

section
/-! What a claim that changes an element's health leaves, field by field, and O43 from it. -/

namespace Sys2Proof.Machine

/-- A claim up to its recompute: the health set, the announcements made, CONFIRMED posted (R5, steps 1 to 3). -/
def claimed (e : Element) (h : Health) (c : Option FaultClass) (s : State) : State :=
  postConfirmed e c (announce e (s.map.health.get e) h (setHealth e h s))

/-- A claim that leaves the health as it was hands out no effect (R5). -/
theorem changeHealth_same {e : Element} {h : Health} {s : State} (hh : s.map.health.get e = h)
    (c : Option FaultClass) : changeHealth e h c s = s := if_pos hh

theorem changeHealth_of_ne {e : Element} {h : Health} {s : State} (hh : s.map.health.get e ≠ h)
    (c : Option FaultClass) : changeHealth e h c s = recompute (claimed e h c s) := if_neg hh

section
variable (e : Element) (h : Health) (c : Option FaultClass) (s : State)

@[simp] theorem claimed_map : (claimed e h c s).map = { s.map with health := s.map.health.set e h } :=
  announce_map e _ h (setHealth e h s)
@[simp] theorem claimed_table : (claimed e h c s).table = s.table := by simp [claimed]
@[simp] theorem claimed_osc : (claimed e h c s).osc = s.osc := by simp [claimed]
@[simp] theorem claimed_envelope : (claimed e h c s).unit.envelope = s.unit.envelope := by simp [claimed]
@[simp] theorem claimed_generation : (claimed e h c s).unit.generation = s.unit.generation := by simp [claimed]
@[simp] theorem claimed_dwell : (claimed e h c s).unit.dwell = s.unit.dwell := by simp [claimed]
@[simp] theorem claimed_primary : (claimed e h c s).recovery.primary = s.recovery.primary := by simp [claimed]
@[simp] theorem claimed_nested : (claimed e h c s).recovery.nested = s.recovery.nested := by simp [claimed]

theorem claimed_floors : (claimed e h c s).unit.floors =
    (announce e (s.map.health.get e) h (setHealth e h s)).unit.floors := rfl

theorem claimed_contact : (claimed e h c s).contact =
    (announce e (s.map.health.get e) h (setHealth e h s)).contact := rfl

theorem claimed_port (p : Port) :
    (claimed e h c s).ports.get p =
      { s.ports.get p with
        notices :=
          { (s.ports.get p).notices with
            ballot := if (portOutNotice e (s.map.health.get e) h s.recovery.ballot).isSome then none
              else (s.ports.get p).notices.ballot
            confirmed := some (e, c)
            trial := (portOutNotice e (s.map.health.get e) h s.recovery.ballot).or
              (s.ports.get p).notices.trial } } := by
  rw [claimed, postConfirmed_ports, PerPort.get_map, announce_port]
  rfl

/-- The whole map after a claim. -/
theorem changeHealth_map : (changeHealth e h c s).map = { s.map with health := s.map.health.set e h } := by
  by_cases hh : s.map.health.get e = h
  · rw [changeHealth_same hh, ← hh, PerElement.set_get]
  · simp [changeHealth_of_ne hh]

@[simp] theorem changeHealth_health : (changeHealth e h c s).map.health = s.map.health.set e h := by
  rw [changeHealth_map]

theorem changeHealth_generation : (changeHealth e h c s).unit.generation =
    if (changeHealth e h c s).unit.envelope = s.unit.envelope then s.unit.generation else s.unit.generation + 1 := by
  by_cases hh : s.map.health.get e = h
  · simp [changeHealth_same hh]
  · rw [changeHealth_of_ne hh, recompute_unit_generation]
    simp

/-- An open ballot after a claim (R126). -/
theorem changeHealth_ballot : (changeHealth e h c s).recovery.ballot =
    if portOutNotice e (s.map.health.get e) h s.recovery.ballot = none then s.recovery.ballot else none := by
  by_cases hh : s.map.health.get e = h
  · simp [changeHealth_same hh, portOutNotice_of_stays (.inr (.inl (congrArg isOut hh)))]
  · rw [changeHealth_of_ne hh, recompute_recovery_ballot]
    exact announce_ballot e _ h (setHealth e h s)

theorem changeHealth_primary : (changeHealth e h c s).recovery.primary =
    if (changeHealth e h c s).unit.envelope = s.unit.envelope then s.recovery.primary
    else s.recovery.primary.map (evaluatedTrial s.recovery.nested (changeHealth e h c s).unit.envelope) := by
  by_cases hh : s.map.health.get e = h
  · simp [changeHealth_same hh]
  · rw [changeHealth_of_ne hh, recompute_primary]
    simp

/-- The ballot and trial slots after a claim, whole. -/
theorem changeHealth_recovery : (changeHealth e h c s).recovery =
    { ballot := if portOutNotice e (s.map.health.get e) h s.recovery.ballot = none then s.recovery.ballot else none
      primary := if (changeHealth e h c s).unit.envelope = s.unit.envelope then s.recovery.primary
        else s.recovery.primary.map (evaluatedTrial s.recovery.nested (changeHealth e h c s).unit.envelope)
      nested := s.recovery.nested } := by
  rw [← changeHealth_ballot e h c, ← changeHealth_primary, ← changeHealth_recovery_nested e h c s]

variable {e h s}

/-- The link ports after a claim that changes the health. -/
theorem changeHealth_noticed (hh : s.map.health.get e ≠ h) :
    Noticed s (changeHealth e h c s) (e, c) (portOutNotice e (s.map.health.get e) h s.recovery.ballot).isSome
      s.recovery.primary (portOutNotice e (s.map.health.get e) h s.recovery.ballot) := by
  intro p
  rw [changeHealth_of_ne hh, recompute_port, claimed_port]
  simp

theorem changeHealth_target (hh : s.map.health.get e ≠ h) :
    (changeHealth e h c s).unit.target =
      targetOf s.osc.image (s.map.health.set e h) (changeHealth e h c s).unit.floors s.table.overflow := by
  simp [changeHealth_of_ne hh]

theorem changeHealth_adoption (hh : s.map.health.get e ≠ h) (d : DrivePort) :
    (changeHealth e h c s).unit.adoption.get d =
      if (changeHealth e h c s).unit.envelope = s.unit.envelope then
        (announce e (s.map.health.get e) h s).unit.adoption.get d
      else
        { (announce e (s.map.health.get e) h s).unit.adoption.get d with
          pending := ((announce e (s.map.health.get e) h s).unit.adoption.get d).pending ||
            portRequired (changeHealth e h c s) d
          deadline := if portRequired (changeHealth e h c s) d then
              some (((announce e (s.map.health.get e) h s).unit.adoption.get d).deadline.getD
                (globalConfig s.osc.image).adoption)
            else ((announce e (s.map.health.get e) h s).unit.adoption.get d).deadline
          latch := ((announce e (s.map.health.get e) h s).unit.adoption.get d).latch &&
            axleAllowed (changeHealth e h c s).unit.envelope d } := by
  have hu : (claimed e h c s).unit.adoption.get d = (announce e (s.map.health.get e) h s).unit.adoption.get d := by
    simp [claimed, announce_adoption]
  have hr : portRequired (recompute (claimed e h c s)) d = portRequired (claimed e h c s) d := by
    simp [portRequired, portInService]
  rw [changeHealth_of_ne hh, recompute_adoption, hu, hr]
  simp

theorem changeHealth_outputs (hh : s.map.health.get e ≠ h) :
    (changeHealth e h c s).permit.outputs =
      if (changeHealth e h c s).unit.envelope = s.unit.envelope ∧
          ¬((!isOut (s.map.health.get e) && isOut h) = true ∧ (e = .frontCtl ∨ e = .rearCtl)) then s.permit.outputs
      else outputsOf s.osc.part (changeHealth e h c s).unit.envelope
        (changeHealth e h c s).unit.adoption.front.latch (changeHealth e h c s).unit.adoption.rear.latch := by
  rw [changeHealth_of_ne hh, recompute_outputs]
  by_cases hv : (recompute (claimed e h c s)).unit.envelope = s.unit.envelope
  · have hf : ∀ d, (recompute (claimed e h c s)).unit.adoption.get d =
        (announce e (s.map.health.get e) h (setHealth e h s)).unit.adoption.get d := by
      intro d
      rw [recompute_adoption, claimed_envelope, if_pos hv]
      rfl
    have hfront := congrArg AdoptionRecord.latch (hf .front)
    have hrear := congrArg AdoptionRecord.latch (hf .rear)
    simp only [PerDrive.get] at hfront hrear
    simp only [claimed_envelope, hv, if_true, true_and, hfront, hrear, ite_not]
    exact announce_outputs e _ _ _
  · simp [hv]

theorem changeHealth_floors_contact_out (hh : s.map.health.get e ≠ h) {p : Port} (hp : portOf e = some p)
    (hb : isOut (s.map.health.get e) = false) (ha : isOut h = true) :
    (changeHealth e h c s).unit.floors = s.unit.floors.set p none ∧
    (changeHealth e h c s).contact = s.contact.set p none := by
  simp [changeHealth_of_ne hh, claimed_floors, claimed_contact, announce_out hp hb ha]

theorem changeHealth_floors_contact_returned (hh : s.map.health.get e ≠ h) {p : Port} (hp : portOf e = some p)
    (hb : isOut (s.map.health.get e) = true) (ha : isOut h = false) :
    (changeHealth e h c s).unit.floors = s.unit.floors ∧
    (changeHealth e h c s).contact =
      (if s.contact.get p = none ∧ checkInValue s.osc.image p ≠ 0 then
        s.contact.set p (some (checkInValue s.osc.image p)) else s.contact) := by
  have hi : portInService (setHealth e h s) p = true := by
    simp [portInService, inService, controllerOf_of_portOf hp, ha]
  simp only [changeHealth_of_ne hh, recompute_unit_floors, recompute_contact, claimed_floors, claimed_contact,
    announce_returned hp hb ha, announceReturned_contact hi]
  exact ⟨by simp, rfl⟩

theorem changeHealth_floors_contact_idle (hh : portOf e = none ∨ isOut (s.map.health.get e) = isOut h) :
    (changeHealth e h c s).unit.floors = s.unit.floors ∧ (changeHealth e h c s).contact = s.contact := by
  by_cases heq : s.map.health.get e = h
  · simp [changeHealth_same heq]
  · simp [changeHealth_of_ne heq, claimed_floors, claimed_contact, announce_idle hh]

end

/-- The ballot behind a claim that takes a controller out: void where it asks the port (R126). -/
theorem portOutNotice_eq_none_iff {e : Element} {p : Port} {before after : Health} (hp : portOf e = some p)
    (hb : isOut before = false) (ha : isOut after = true) (b : Ballot) :
    portOutNotice e before after (some b) = none ↔ b.consent.get p = false := by
  simp [portOutNotice, takesOutVoter, hb, ha, hp]

theorem portOf_eq_none_iff (e : Element) : portOf e = none ↔ ∀ p, controllerOf p ≠ e := by
  constructor
  · rintro h p rfl
    simp at h
  · intro h
    cases hp : portOf e with
    | none => rfl
    | some p => exact absurd (controllerOf_of_portOf hp) (h p)

/-- Settles O43: the claim's parts, one lemma each, in the order of R5. -/
theorem claimsHandOutTheirEffects : Obligations.ClaimsHandOutTheirEffects := by
  unfold Obligations.ClaimsHandOutTheirEffects
  intro e h c s
  refine ⟨fun hh => changeHealth_same hh c, ?_⟩
  intro hh t goesOut returns void target tight dwell deadline
  have henv : t.unit.envelope = publishedEnvelope (computeTarget (claimed e h c s)) := by
    rw [← recompute_unit_envelope, ← changeHealth_of_ne hh]
  have hdwell : t.unit.dwell = publishedDwell (computeTarget (claimed e h c s)) := by
    rw [← recompute_unit_dwell, ← changeHealth_of_ne hh]
  have htarget : (computeTarget (claimed e h c s)).unit.target.env = target := by
    simp only [target, t, changeHealth_of_ne hh, recompute_unit_target]
    rfl
  have hnotices := changeHealth_noticed c hh
  refine ⟨changeHealth_map e h c s, changeHealth_table e h c s, changeHealth_retained e h c s,
    changeHealth_lines e h c s, changeHealth_osc e h c s, changeHealth_time e h c s, changeHealth_pending e h c s,
    fun p => congrArg (·.notices.confirmed) (hnotices p), ?target, ?out, ?returned, ?idle, ?stopped, ?atOnce, ?dwells,
    changeHealth_generation e h c s, ?adoption, ?permit, changeHealth_recovery e h c s, hnotices⟩
  case target => rw [changeHealth_map]; exact changeHealth_target c hh
  case out =>
    intro p ho hp
    subst hp
    obtain ⟨hb, ha⟩ : isOut (s.map.health.get (controllerOf p)) = false ∧ isOut h = true := by
      simpa [goesOut] using ho
    obtain ⟨hfloors, hcontact⟩ := changeHealth_floors_contact_out c hh (portOf_controllerOf p) hb ha
    refine ⟨hfloors, hcontact, fun b hballot => ?_, fun d hd => ?_⟩
    · rw [changeHealth_ballot, hballot]
      simp only [portOutNotice_eq_none_iff (portOf_controllerOf p) hb ha]
      cases b.consent.get p <;> rfl
    · subst hd
      have hr : portRequired (changeHealth (controllerOf (portOfDrive d)) h c s) d = false := by
        simp [portRequired, portInService, inService, ha]
      rw [changeHealth_adoption c hh, hr]
      split_ifs <;> simp_all [announce_adoption]
  case returned =>
    intro p ho hp
    subst hp
    obtain ⟨hb, ha⟩ : isOut (s.map.health.get (controllerOf p)) = true ∧ isOut h = false := by
      simpa [returns] using ho
    obtain ⟨hfloors, hcontact⟩ := changeHealth_floors_contact_returned c hh (portOf_controllerOf p) hb ha
    refine ⟨hfloors, ?_, hcontact, fun d hd => ?_⟩
    · rw [changeHealth_ballot, portOutNotice_of_stays (.inr (.inr ha)), if_pos rfl]
    · subst hd
      rw [changeHealth_adoption c hh]
      split_ifs <;> simp [announce_adoption, hb, ha, deadline]
  case idle =>
    intro hi
    have hidle : portOf e = none ∨ isOut (s.map.health.get e) = isOut h := by
      refine hi.imp (portOf_eq_none_iff e).mpr fun ⟨ho, hr⟩ => ?_
      revert ho hr
      simp only [goesOut, returns]
      cases isOut (s.map.health.get e) <;> cases isOut h <;> simp
    obtain ⟨hfloors, hcontact⟩ := changeHealth_floors_contact_idle c hidle
    refine ⟨hfloors, hcontact, ?_⟩
    rw [changeHealth_ballot, portOutNotice_of_stays (hidle.imp_right .inl), if_pos rfl]
  case stopped =>
    intro hr
    rw [henv, hdwell]
    simp [publishedEnvelope, publishedDwell, hr]
  case atOnce =>
    intro hr h0
    rw [henv, hdwell]
    simp only [publishedEnvelope, publishedDwell, htarget]
    simp [hr, show (globalConfig s.osc.image).dwell = 0 from h0]
  case dwells =>
    intro hr h0
    rw [henv, hdwell]
    simp only [publishedEnvelope, publishedDwell, htarget]
    simp [hr, show (globalConfig s.osc.image).dwell ≠ 0 from h0, tight, dwell]
  case adoption =>
    intro d v w
    rw [changeHealth_adoption c hh, announce_adoption]
  case permit =>
    rw [← changeHealth_outputs c hh]
    exact congrArg (PermitStage.mk t.permit.outputs) (changeHealth_permit_mismatch e h c s)

end Sys2Proof.Machine
end

section
/-! The start and the passing of a trial, whole (O44, O31): the slots, the evaluations of PRIMARY and their notices. -/

namespace Sys2Proof.Machine

/-! ### Evaluated trials -/

theorem suspensionHolds_iff (g : Group) (v : Envelope) : suspensionHolds g v = true ↔ Suspends g v := by
  cases g <;> simp [suspensionHolds, Suspends]

@[simp] theorem evaluatedTrial_element (n : Option Trial) (v : Envelope) (x : Trial) :
    (evaluatedTrial n v x).element = x.element := rfl

/-- With NESTED empty, an evaluated trial is suspended exactly where the condition of Table 8.4 holds. -/
theorem evaluatedTrial_suspended_iff (v : Envelope) (x : Trial) :
    (evaluatedTrial none v x).state = .suspended ↔ Suspends (elementGroup x.element) v := by
  rw [← suspensionHolds_iff]
  cases h : suspensionHolds (elementGroup x.element) v <;> simp [evaluatedTrial, h]

theorem evaluatedTrial_of_suspends {v : Envelope} {x : Trial} (h : Suspends (elementGroup x.element) v)
    (n : Option Trial) : evaluatedTrial n v x = { x with state := .suspended } := by
  simp [evaluatedTrial, (suspensionHolds_iff _ _).mpr h]

theorem evaluatedTrial_of_not_suspends {v : Envelope} {x : Trial} (h : ¬Suspends (elementGroup x.element) v) :
    evaluatedTrial none v x = { x with state := .running } := by
  have : suspensionHolds (elementGroup x.element) v = false := by
    rw [← Bool.not_eq_true, suspensionHolds_iff]; exact h
  simp [evaluatedTrial, this]

/-- A second evaluation against the same envelope changes nothing. -/
@[simp] theorem evaluatedTrial_evaluatedTrial (v : Envelope) (x : Trial) :
    evaluatedTrial none v (evaluatedTrial none v x) = evaluatedTrial none v x := by
  cases h : suspensionHolds (elementGroup x.element) v <;> simp [evaluatedTrial, h]

/-- A SUSPENDED trial stays so behind an occupied NESTED slot (Table 8.5). -/
theorem evaluatedTrial_of_nested {n : Option Trial} {x : Trial} (hn : n ≠ none) (hx : x.state = .suspended)
    (v : Envelope) : evaluatedTrial n v x = x := by
  cases x
  simp_all [evaluatedTrial]

/-! ### Notices of a claim, seen from the state before a TRIAL notice and after a last evaluation -/

/-- A TRIAL notice posted before a claim is the one that stands unless the claim or an evaluation posts its own. -/
theorem Noticed.of_posted {s w t : State} {c : Element × Option FaultClass} {closes : Bool} {before : Option Trial}
    {void : Option (Element × TrialOutcome)} {n : Element × TrialOutcome} (h : Noticed w t c closes before void)
    (hports : ∀ p, w.ports.get p = { s.ports.get p with notices := { (s.ports.get p).notices with trial := some n } })
    (henv : w.unit.envelope = s.unit.envelope) : Noticed s t c closes before (void.or (some n)) := by
  intro p
  rw [h p, hports p, henv]
  cases void <;> rfl

/-- An evaluation of PRIMARY behind a claim leaves the notices of a claim, where the claim has left the trial as it was or
as this evaluation leaves it. -/
theorem Noticed.evaluatePrimary {s u : State} {c : Element × Option FaultClass} {closes : Bool}
    {before : Option Trial} {posted : Option (Element × TrialOutcome)} (h : Noticed s u c closes before posted)
    (hn : u.recovery.nested = none)
    (hp : u.recovery.primary = before ∨ u.recovery.primary = before.map (evaluatedTrial none u.unit.envelope)) :
    Noticed s (evaluatePrimary u) c closes before posted := by
  intro p
  rw [evaluatePrimary_port, h p, evaluatePrimary_primary, hn]
  rcases hp with hp | hp
  · simp [hp]
  · cases before <;> simp [hp]

/-- PRIMARY after a claim and an evaluation, with NESTED empty: evaluated against the envelope that the claim has left. -/
theorem evaluatePrimary_changeHealth_primary (e : Element) (h : Health) (c : Option FaultClass) {s : State}
    (hn : s.recovery.nested = none) :
    (evaluatePrimary (changeHealth e h c s)).recovery.primary =
      s.recovery.primary.map (evaluatedTrial none (changeHealth e h c s).unit.envelope) := by
  rw [evaluatePrimary_primary, changeHealth_primary, changeHealth_recovery_nested, hn]
  split
  · rfl
  · cases s.recovery.primary <;> simp

/-- What a claim has left in PRIMARY, as `Noticed.evaluatePrimary` asks for it. -/
theorem changeHealth_primary_cases (e : Element) (h : Health) (c : Option FaultClass) {s : State}
    (hn : s.recovery.nested = none) :
    (changeHealth e h c s).recovery.primary = s.recovery.primary ∨
    (changeHealth e h c s).recovery.primary =
      s.recovery.primary.map (evaluatedTrial none (changeHealth e h c s).unit.envelope) := by
  rw [changeHealth_primary, hn]
  split
  · exact .inl rfl
  · exact .inr rfl

/-! ### The trial slots -/

theorem slotFor_primary {r : RecoveryUnit} {e : Element} (h : slotFor r e = .ok .primary) :
    r.primary = none ∧ r.nested = none := by
  unfold slotFor at h
  split at h
  · exact ⟨‹_›, ‹_›⟩
  · split at h
    · cases h
    · split at h <;> cases h
  · cases h

theorem slotFor_nested {r : RecoveryUnit} {e : Element} (h : slotFor r e = .ok .nested) :
    ∃ y, r.primary = some y ∧ y.state = .suspended ∧ r.nested = none := by
  unfold slotFor at h
  split at h
  · cases h
  · split at h
    · cases h
    · exact ⟨_, ‹_›, ‹_›, ‹_›⟩
  · cases h

/-! ### The start of a trial -/

/-- The state in which the claim of a trial start is made: the record in its slot, STARTED posted, the CONFIRMED records of
the element removed (R135, steps 1 to 3). -/
def trialPlaced (slot : TrialSlot) (e : Element) (s : State) : State :=
  removeConfirmed e (postTrial e (.started slot) (placeTrial slot (newTrial slot e s) s))

theorem startTrial_eq {e : Element} {s : State} (h : s.map.health.get e = .isolated ∨ s.map.health.get e = .degraded)
    (slot : TrialSlot) : startTrial slot e s = changeHealth e .trial none (trialPlaced slot e s) := by
  have hm : (trialPlaced slot e s).map = s.map := by cases slot <;> rfl
  show trialStartClaim e (trialPlaced slot e s) = _
  rcases h with h | h <;> simp [trialStartClaim, hm, h]

section
variable (slot : TrialSlot) (e : Element) (s : State)

@[simp] theorem trialPlaced_map : (trialPlaced slot e s).map = s.map := by cases slot <;> rfl
@[simp] theorem trialPlaced_unit : (trialPlaced slot e s).unit = s.unit := by cases slot <;> rfl
@[simp] theorem trialPlaced_osc : (trialPlaced slot e s).osc = s.osc := by cases slot <;> rfl
@[simp] theorem trialPlaced_retained : (trialPlaced slot e s).retained = s.retained := by cases slot <;> rfl
@[simp] theorem trialPlaced_contact : (trialPlaced slot e s).contact = s.contact := by cases slot <;> rfl
@[simp] theorem trialPlaced_ballot : (trialPlaced slot e s).recovery.ballot = s.recovery.ballot := by
  cases slot <;> rfl
@[simp] theorem trialPlaced_table : (trialPlaced slot e s).table =
    { s.table with records := s.table.records.filter fun x => !(x.element == e && x.state == .confirmed) } := by
  cases slot <;> rfl

theorem trialPlaced_port (p : Port) : (trialPlaced slot e s).ports.get p =
    { s.ports.get p with notices := { (s.ports.get p).notices with trial := some (e, .started slot) } } := by
  cases slot <;> cases p <;> rfl

/-- A new trial in PRIMARY stands as an evaluation against the envelope would leave it (R136). -/
theorem newTrial_primary_evaluated :
    evaluatedTrial none s.unit.envelope (newTrial .primary e s) = newTrial .primary e s := by
  cases h : suspensionHolds (elementGroup e) s.unit.envelope <;> simp [evaluatedTrial, newTrial, h]

end

section
variable {slot : TrialSlot} {e : Element} {s : State}

/-- The notices that a trial start leaves (R144). -/
theorem startTrial_noticed (h : s.map.health.get e = .isolated ∨ s.map.health.get e = .degraded) :
    Noticed s (startTrial slot e s) (e, none) false (trialPlaced slot e s).recovery.primary
      (some (e, .started slot)) := by
  have hne : (trialPlaced slot e s).map.health.get e ≠ .trial := by
    rw [trialPlaced_map]; rcases h with h | h <;> simp [h]
  have hn := changeHealth_noticed none hne
  rw [portOutNotice_of_stays (.inr (.inr rfl)), ← startTrial_eq h slot] at hn
  exact hn.of_posted (trialPlaced_port slot e s) (by simp)

/-- A trial that starts in PRIMARY stands evaluated against the envelope that its start has left (R136, R138). -/
theorem startTrial_primary (h : s.map.health.get e = .isolated ∨ s.map.health.get e = .degraded)
    (hn : s.recovery.nested = none) :
    (startTrial .primary e s).recovery.primary =
      some (evaluatedTrial none (startTrial .primary e s).unit.envelope (newTrial .primary e s)) := by
  have hp : (trialPlaced .primary e s).recovery.primary = some (newTrial .primary e s) := rfl
  have hnested : (trialPlaced .primary e s).recovery.nested = none := hn
  rw [startTrial_eq h, changeHealth_primary, hp, hnested, trialPlaced_unit]
  split
  case isTrue hv => rw [hv, newTrial_primary_evaluated]
  case isFalse => rfl

/-- A trial that starts in NESTED leaves the SUSPENDED trial before it as it is (R139). -/
theorem startTrial_nested_primary (h : s.map.health.get e = .isolated ∨ s.map.health.get e = .degraded) {y : Trial}
    (hp : s.recovery.primary = some y) (hy : y.state = .suspended) :
    (startTrial .nested e s).recovery.primary = some y := by
  have hplaced : (trialPlaced .nested e s).recovery.primary = some y := hp
  have hnested : (trialPlaced .nested e s).recovery.nested ≠ none := by intro hc; cases hc
  rw [startTrial_eq h, changeHealth_primary, hplaced]
  split
  · rfl
  · rw [Option.map_some, evaluatedTrial_of_nested hnested hy]

theorem startTrial_nested (h : s.map.health.get e = .isolated ∨ s.map.health.get e = .degraded) :
    (startTrial slot e s).recovery.nested = (trialPlaced slot e s).recovery.nested := by
  rw [startTrial_eq h, changeHealth_recovery_nested]

end

/-- Settles O44: the claim on the state with the trial in its slot, and the slot's record after the evaluations. -/
theorem trialStartsAreTaken : Obligations.TrialStartsAreTaken := by
  unfold Obligations.TrialStartsAreTaken
  intro slot e s h hslot hballot t duration
  have hnotices : Noticed s t (e, none) false (trialPlaced slot e s).recovery.primary (some (e, .started slot)) :=
    startTrial_noticed h
  have ht : t = changeHealth e .trial none (trialPlaced slot e s) := startTrial_eq h slot
  have hconfirmed : ∀ p, (t.ports.get p).notices.confirmed = some (e, none) :=
    fun p => congrArg (·.notices.confirmed) (hnotices p)
  have hrest : t.map.health = s.map.health.set e .trial ∧ t.map.budget = s.map.budget ∧
      t.table.records = s.table.records.filter (fun x => !(x.element == e && x.state == .confirmed)) ∧
      t.table.overflow = s.table.overflow ∧ t.recovery.ballot = none ∧ t.retained = s.retained ∧ t.osc = s.osc := by
    simp [ht, changeHealth_ballot, hballot]
  obtain ⟨hhealth, hbudget, hrecords, hoverflow, hnone, hretained, hosc⟩ := hrest
  cases slot with
  | primary =>
    obtain ⟨-, hnested⟩ := slotFor_primary hslot
    have hp : t.recovery.primary = some (evaluatedTrial none t.unit.envelope (newTrial .primary e s)) :=
      startTrial_primary h hnested
    have hn : t.recovery.nested = none := (startTrial_nested h).trans hnested
    refine ⟨⟨_, hp, rfl, rfl, rfl, rfl, nofun, fun _ => evaluatedTrial_suspended_iff _ _⟩, nofun, fun _ => hn, hhealth,
      hbudget, hrecords, hoverflow, hnone, hconfirmed, hretained, hosc, ?_⟩
    intro placed
    refine ⟨fun _ => hp, nofun, fun _ hplaced hsusp p => ?_, hnotices⟩
    have htrial := congrArg (·.notices.trial) (hnotices p)
    have hfirst : (trialPlaced .primary e s).recovery.primary = some (newTrial .primary e s) := rfl
    rw [evaluatedTrial_of_not_suspends (x := newTrial .primary e s) hsusp] at hp
    have hstate : (newTrial .primary e s).state = .suspended := hplaced
    simp only [hfirst, hp, evaluationNotice, hstate] at htrial
    exact htrial
  | nested =>
    obtain ⟨y, hy, hsusp, -⟩ := slotFor_nested hslot
    have hp : t.recovery.primary = some y := startTrial_nested_primary h hy hsusp
    have hn : t.recovery.nested = some (newTrial .nested e s) := startTrial_nested h
    have hplaced : (trialPlaced .nested e s).recovery.primary = some y := hy
    refine ⟨⟨_, hn, rfl, rfl, rfl, rfl, fun _ => rfl, nofun⟩, fun _ => hp.trans hy.symm, nofun, hhealth, hbudget, hrecords,
      hoverflow, hnone, hconfirmed, hretained, hosc, ?_⟩
    intro placed
    refine ⟨nofun, fun _ => ⟨hn, fun p => ?_⟩, nofun, hnotices⟩
    have htrial := congrArg (·.notices.trial) (hnotices p)
    simp only [hplaced, hp, evaluationNotice_self] at htrial
    exact htrial

/-! ### The end of a trial -/

/-- The state in which the claim of a trial's end is made: the slot emptied, the outcome posted (R140, R141). -/
def trialEnded (slot : TrialSlot) (e : Element) (o : TrialOutcome) (s : State) : State :=
  postTrial e o (emptySlot slot s)

/-- The trial that PRIMARY holds once a slot has been emptied (R143). -/
def remainingTrial (slot : TrialSlot) (r : RecoveryUnit) : Option Trial :=
  if slot = .primary then r.nested else r.primary

section
variable (slot : TrialSlot) (e : Element) (o : TrialOutcome) (s : State)

@[simp] theorem trialEnded_map : (trialEnded slot e o s).map = s.map := by cases slot <;> rfl
@[simp] theorem trialEnded_table : (trialEnded slot e o s).table = s.table := by cases slot <;> rfl
@[simp] theorem trialEnded_unit : (trialEnded slot e o s).unit = s.unit := by cases slot <;> rfl
@[simp] theorem trialEnded_osc : (trialEnded slot e o s).osc = s.osc := by cases slot <;> rfl
@[simp] theorem trialEnded_contact : (trialEnded slot e o s).contact = s.contact := by cases slot <;> rfl
@[simp] theorem trialEnded_retained : (trialEnded slot e o s).retained = s.retained := by cases slot <;> rfl
@[simp] theorem trialEnded_ballot : (trialEnded slot e o s).recovery.ballot = s.recovery.ballot := by cases slot <;> rfl
@[simp] theorem trialEnded_nested : (trialEnded slot e o s).recovery.nested = none := by cases slot <;> rfl
@[simp] theorem trialEnded_primary : (trialEnded slot e o s).recovery.primary = remainingTrial slot s.recovery := by
  cases slot <;> rfl

theorem trialEnded_port (p : Port) : (trialEnded slot e o s).ports.get p =
    { s.ports.get p with notices := { (s.ports.get p).notices with trial := some (e, o) } } := by
  cases slot <;> cases p <;> rfl

end

theorem inFlight_of_trialIn {r : RecoveryUnit} {slot : TrialSlot} {x : Trial} (h : trialIn r slot = some x) :
    InFlight r x.element := by
  cases slot
  · exact .inl ⟨x, h, rfl⟩
  · exact .inr ⟨x, h, rfl⟩

/-- Nothing waits in NESTED behind a RUNNING trial in PRIMARY (R132). -/
theorem nested_none_of_running {r : RecoveryUnit} (h : SlotsAgree r) {x : Trial} (hx : r.primary = some x)
    (hs : x.state = .running) : r.nested = none := by
  cases hn : r.nested with
  | none => rfl
  | some n =>
    obtain ⟨-, y, hy, hsusp, -⟩ := h n hn
    obtain rfl : x = y := Option.some.inj (hx.symm.trans hy)
    rw [hs] at hsusp
    cases hsusp

/-- A trial passes by one claim and an evaluation of the trial that remains (R140). -/
theorem passTrial_eq {x : Trial} {s : State} (h : s.map.health.get x.element = .trial) (slot : TrialSlot) :
    passTrial slot x s =
      evaluatePrimary (changeHealth x.element .inService none (trialEnded slot x.element .passed s)) := by
  have hm : (trialEnded slot x.element .passed s).map.health.get x.element = .trial := by simp [h]
  show evaluatePrimary (trialPassedClaim x.element (trialEnded slot x.element .passed s)) = _
  rw [trialPassedClaim, if_pos hm]

/-- The notices that a passed trial leaves (R138, R140, R144). -/
theorem passTrial_noticed {x : Trial} {s : State} (h : s.map.health.get x.element = .trial) (slot : TrialSlot) :
    Noticed s (passTrial slot x s) (x.element, none) false (remainingTrial slot s.recovery)
      (some (x.element, .passed)) := by
  have hne : (trialEnded slot x.element .passed s).map.health.get x.element ≠ .inService := by simp [h]
  have hclaim := changeHealth_noticed none hne
  rw [portOutNotice_of_stays (.inr (.inr rfl)), trialEnded_primary] at hclaim
  rw [passTrial_eq h]
  refine (hclaim.of_posted (trialEnded_port _ _ _ s) (by simp)).evaluatePrimary (by simp) ?_
  rw [← trialEnded_primary slot x.element .passed s]
  exact changeHealth_primary_cases _ _ _ (by simp)

/-- What remains in PRIMARY behind a passed trial, evaluated against the envelope that the pass has left (R143). -/
theorem passTrial_primary {x : Trial} {s : State} (h : s.map.health.get x.element = .trial) (slot : TrialSlot) :
    (passTrial slot x s).recovery.primary =
      (remainingTrial slot s.recovery).map (evaluatedTrial none (passTrial slot x s).unit.envelope) := by
  rw [passTrial_eq h, evaluatePrimary_changeHealth_primary _ _ _ (by simp), trialEnded_primary, evaluatePrimary_unit]

theorem passTrial_target {x : Trial} {s : State} (h : s.map.health.get x.element = .trial) (slot : TrialSlot) :
    (passTrial slot x s).unit.target =
      targetOf s.osc.image (s.map.health.set x.element .inService) s.unit.floors s.table.overflow := by
  have hne : (trialEnded slot x.element .passed s).map.health.get x.element ≠ .inService := by simp [h]
  have hidle : isOut ((trialEnded slot x.element .passed s).map.health.get x.element) = isOut .inService := by
    rw [trialEnded_map, h]; rfl
  rw [passTrial_eq h, evaluatePrimary_unit, changeHealth_target none hne,
    (changeHealth_floors_contact_idle none (.inr hidle)).1]
  simp

/-- Settles O31: the claim on the state with the slot emptied, and the evaluation of the trial that remains. -/
theorem trialsPassAtTheirExpiry : Obligations.TrialsPassAtTheirExpiry := by
  unfold Obligations.TrialsPassAtTheirExpiry
  rintro slot s x hheld hrun ⟨hslots, htrials, -⟩ hx hstate hleft
  have hhealth : s.map.health.get x.element = .trial := (htrials _).mpr (inFlight_of_trialIn hx)
  refine ⟨passTrial slot x s, ?_, ?_⟩
  · simp [exec, execTrialExpiry, unlessHeld, trialExpiry, inRun, hheld, hrun, hx, hstate, hleft]
  have hprimary := passTrial_primary hhealth slot
  have hnotices := passTrial_noticed hhealth slot
  have hremains : slot = .primary → remainingTrial slot s.recovery = none := by
    rintro rfl
    exact nested_none_of_running hslots hx hstate
  have hfields : (passTrial slot x s).recovery.nested = none ∧
      (passTrial slot x s).map = { s.map with health := s.map.health.set x.element .inService } ∧
      (passTrial slot x s).table = s.table ∧ (passTrial slot x s).recovery.ballot = s.recovery.ballot := by
    simp [passTrial_eq hhealth, changeHealth_map, changeHealth_ballot,
      portOutNotice_of_stays (.inr (.inr (show isOut .inService = false from rfl)))]
  obtain ⟨hnested, hmap, htable, hballot⟩ := hfields
  refine ⟨hnested, fun hs => ?_, fun y hs hy => ?_, fun k => ?_, by rw [hmap], htable, hballot,
    fun p => congrArg (·.notices.confirmed) (hnotices p), fun hs p => ?_, ?_, ?_⟩
  · rw [hprimary, hremains hs, Option.map_none]
  · rw [hprimary, hs, show remainingTrial .nested s.recovery = some y from hy, Option.map_some]
    have hsusp : y.state = .suspended := by
      obtain ⟨-, z, hz, hsusp, -⟩ := hslots x (by rw [← hx, hs]; rfl)
      obtain rfl : y = z := Option.some.inj (hy.symm.trans hz)
      exact hsusp
    refine ⟨fun h => ?_, fun h => ?_⟩
    · rw [evaluatedTrial_of_suspends h, ← hsusp]
    · rw [evaluatedTrial_of_not_suspends h]
  · rw [hmap]
    exact PerElement.get_set _ _ _ _
  · have htrial := congrArg (·.notices.trial) (hnotices p)
    rw [hremains hs] at htrial
    exact htrial
  · have hbefore : (if slot = .primary then none else s.recovery.primary) = remainingTrial slot s.recovery := by
      cases slot
      · exact (hremains rfl).symm
      · rfl
    rw [hbefore]
    exact hnotices
  · rw [hmap]
    exact passTrial_target hhealth slot

end Sys2Proof.Machine
end

section
/-! What the taking of a report does to the records, and a confirmation with its effects (O41). -/

namespace Sys2Proof.Machine

/-! ### Records of a pair -/

theorem ofPair_iff {e : Element} {c : FaultClass} {x : FaultRecord} :
    ofPair e c x = true ↔ x.element = e ∧ x.cls = c := by simp [ofPair]

/-- An update of the record of a pair that leaves it a record of that pair. -/
def KeepsPair (f : FaultRecord → FaultRecord) : Prop := ∀ x, (f x).element = x.element ∧ (f x).cls = x.cls

theorem ofPair_keepsPair {f : FaultRecord → FaultRecord} (hf : KeepsPair f) (e : Element) (c : FaultClass)
    (x : FaultRecord) : ofPair e c (f x) = ofPair e c x := by
  simp only [ofPair, (hf x).1, (hf x).2]

theorem keepsPair_joinRecord (k : ClassParams) (r : FaultReport) (now : Uptime) : KeepsPair (joinRecord k r now) :=
  fun _ => ⟨rfl, rfl⟩

theorem keepsPair_confirmed (now : Uptime) : KeepsPair (confirmed now) := fun _ => ⟨rfl, rfl⟩

/-- The record of a pair after an update of it. -/
theorem findRecord_map {f : FaultRecord → FaultRecord} (hf : KeepsPair f) (e : Element) (c : FaultClass)
    (rs : List FaultRecord) :
    findRecord (rs.map fun x => if ofPair e c x then f x else x) e c = (findRecord rs e c).map f := by
  induction rs with
  | nil => rfl
  | cons x rs ih =>
    unfold findRecord at ih ⊢
    cases hx : ofPair e c x with
    | true => simp [hx, ofPair_keepsPair hf]
    | false => simp [hx, ih]

theorem findRecord_append_of_none {rs : List FaultRecord} {e : Element} {c : FaultClass}
    (h : findRecord rs e c = none) (x : FaultRecord) (hx : x.element = e ∧ x.cls = c) :
    findRecord (rs ++ [x]) e c = some x := by
  unfold findRecord at h ⊢
  rw [List.find?_append, h]
  simp [ofPair_iff.mpr hx]

/-- With a table that is well formed, the records of a pair are the one that is found (R20). -/
theorem ofPair_iff_eq_found {s : State} (hw : TableWellFormed s) {e : Element} {c : FaultClass} {x y : FaultRecord}
    (hx : findRecord s.table.records e c = some x) (hy : y ∈ s.table.records) : ofPair e c y = true ↔ y = x := by
  have hpx : ofPair e c x = true := List.find?_some hx
  refine ⟨fun hpy => ?_, fun h => h ▸ hpx⟩
  by_contra hne
  obtain ⟨he, hc⟩ := ofPair_iff.mp hpx
  obtain ⟨he', hc'⟩ := ofPair_iff.mp hpy
  have hsymm : Std.Symm fun x y : FaultRecord => ¬(x.element = y.element ∧ x.cls = y.cls) :=
    ⟨fun _ _ h hp => h ⟨hp.1.symm, hp.2.symm⟩⟩
  have hdistinct := hw.2.forall hy (List.mem_of_find?_eq_some hx) (Ne.intro hne)
  exact hdistinct ⟨he'.trans he.symm, hc'.trans hc.symm⟩

/-! ### Eviction -/

theorem evictLowest_sublist (rs : List FaultRecord) : (evictLowest rs).Sublist rs := by
  unfold evictLowest
  split
  · exact List.Sublist.refl _
  · exact List.eraseP_sublist

theorem lowestSuspect_mem {rs : List FaultRecord} {m : Nat} (h : lowestSuspect rs = some m) :
    ∃ x ∈ rs, isSuspect x = true ∧ x.score = m := by
  induction rs generalizing m with
  | nil => cases h
  | cons x rs ih =>
    cases hl : lowestSuspect rs with
    | none =>
      cases hx : isSuspect x <;> simp [lowestSuspect, hl, hx] at h
      exact ⟨x, by simp, hx, h⟩
    | some n =>
      obtain ⟨y, hy, hys, hyn⟩ := ih hl
      cases hx : isSuspect x with
      | false =>
        simp only [lowestSuspect, hl, hx] at h
        exact ⟨y, by simp [hy], hys, hyn.trans (Option.some.inj h)⟩
      | true =>
        simp only [lowestSuspect, hl, hx, if_true, Option.some.injEq] at h
        rcases Nat.le_total x.score n with hle | hle
        · exact ⟨x, by simp, hx, by omega⟩
        · exact ⟨y, by simp [hy], hys, by omega⟩

theorem lowestSuspect_isSome {rs : List FaultRecord} (h : ∃ x ∈ rs, isSuspect x = true) :
    (lowestSuspect rs).isSome = true := by
  induction rs with
  | nil => simp at h
  | cons x rs ih =>
    cases hl : lowestSuspect rs with
    | some n => cases hx : isSuspect x <;> simp [lowestSuspect, hl, hx]
    | none =>
      have hx : isSuspect x = true := by
        obtain ⟨y, hy, hys⟩ := h
        rcases List.mem_cons.mp hy with rfl | hy
        · exact hys
        · have := ih ⟨y, hy, hys⟩
          rw [hl] at this
          cases this
      simp [lowestSuspect, hl, hx]

/-- An eviction removes one record, and that a SUSPECT one (R28). -/
theorem evictLowest_removes {rs : List FaultRecord} (h : ∃ x ∈ rs, isSuspect x = true) :
    (evictLowest rs).length + 1 = rs.length ∧
    ∀ x ∈ rs, isSuspect x = false → x ∈ evictLowest rs := by
  obtain ⟨m, hm⟩ := Option.isSome_iff_exists.mp (lowestSuspect_isSome h)
  obtain ⟨y, hy, hys, hym⟩ := lowestSuspect_mem hm
  have hev : evictLowest rs = rs.eraseP fun x => isSuspect x && x.score == m := by simp only [evictLowest, hm]
  have hyp : (isSuspect y && y.score == m) = true := by simp [hys, hym]
  rw [hev]
  refine ⟨?_, fun x hx hns => ?_⟩
  · have := List.length_eraseP_of_mem (p := fun x => isSuspect x && x.score == m) hy hyp
    have := List.length_pos_of_mem hy
    omega
  · exact (List.mem_eraseP_of_neg (by simp [hns])).mpr hx

/-! ### Taking a report -/

/-- There is room for a report: a record of its pair, a free place, or a SUSPECT record to evict (R26 to R28). -/
def RoomFor (r : FaultReport) (s : State) : Prop :=
  recordOf s r.element r.cls ≠ none ∨ s.table.records.length < 32 ∨ ∃ x ∈ s.table.records, x.state = .suspect

/-- The record that a report is scored in: that of its pair, or a new one (R26, R27). -/
def scoredRecord (r : FaultReport) (s : State) : FaultRecord :=
  match findRecord s.table.records r.element r.cls with
  | some x => joinRecord (classParams s.osc.image r.cls) r s.time.uptime x
  | none => newRecord (classParams s.osc.image r.cls) r s.time.uptime

/-- The records once a report is scored, before its record is tested (R26 to R28). -/
def scoredRecords (r : FaultReport) (s : State) : List FaultRecord :=
  match findRecord s.table.records r.element r.cls with
  | some _ => s.table.records.map fun x =>
      if ofPair r.element r.cls x then joinRecord (classParams s.osc.image r.cls) r s.time.uptime x else x
  | none =>
      (if s.table.records.length < 32 then s.table.records else evictLowest s.table.records) ++
        [newRecord (classParams s.osc.image r.cls) r s.time.uptime]

/-- The state once a report is scored, before its record is tested. -/
def scored (r : FaultReport) (s : State) : State := { s with table.records := scoredRecords r s }

theorem any_isSuspect_iff (rs : List FaultRecord) : rs.any isSuspect = true ↔ ∃ x ∈ rs, x.state = .suspect := by
  simp [isSuspect]

/-- A report with room is scored, and its record tested (R25 to R28). -/
theorem takeReport_of_room {r : FaultReport} {s : State} (h : RoomFor r s) :
    takeReport r s = testRecord r.element r.cls (scored r s) := by
  cases hf : findRecord s.table.records r.element r.cls with
  | some x =>
    have hs : scoredRecords r s = s.table.records.map fun x =>
        if ofPair r.element r.cls x then joinRecord (classParams s.osc.image r.cls) r s.time.uptime x else x := by
      simp only [scoredRecords, hf]
    simp only [takeReport, hf, scored, hs, onRecord]
  | none =>
    have hs : scored r s = { s with table.records :=
        (if s.table.records.length < 32 then s.table.records else evictLowest s.table.records) ++
          [newRecord (classParams s.osc.image r.cls) r s.time.uptime] } := by
      simp only [scored, scoredRecords, hf]
    by_cases hl : s.table.records.length < 32
    · simp only [takeReport, hf, tableCapacity, hl, if_true, appendTo, hs]
    · have ha : s.table.records.any isSuspect = true :=
        (any_isSuspect_iff _).mpr (h.resolve_left (fun hne => hne hf) |>.resolve_left hl)
      simp only [takeReport, hf, tableCapacity, hl, if_false, ha, if_true, appendTo, hs]

/-- A report without room is left unrecorded (R29). -/
theorem takeReport_of_no_room {r : FaultReport} {s : State} (h : ¬RoomFor r s) : takeReport r s = leaveUnrecorded r s := by
  simp only [RoomFor, not_or, not_not] at h
  obtain ⟨hf, hl, ha⟩ := h
  have hf : findRecord s.table.records r.element r.cls = none := hf
  have ha : ¬s.table.records.any isSuspect = true := fun hany => ha ((any_isSuspect_iff _).mp hany)
  simp only [takeReport, hf, tableCapacity, hl, if_false, ha, Bool.false_eq_true]

theorem handReport_of_running {s : State} (h : Running s) (r : FaultReport) : handReport r s = takeReport r s :=
  if_pos ((isRunning_iff s).mpr h)

theorem handReport_of_not_running {s : State} (h : ¬Running s) (r : FaultReport) : handReport r s = s :=
  if_neg fun hr => h ((isRunning_iff s).mp hr)

theorem findRecord_scoredRecords (r : FaultReport) (s : State) :
    findRecord (scoredRecords r s) r.element r.cls = some (scoredRecord r s) := by
  cases hf : findRecord s.table.records r.element r.cls with
  | some x => simp only [scoredRecords, scoredRecord, hf, findRecord_map (keepsPair_joinRecord _ _ _), Option.map_some]
  | none =>
    simp only [scoredRecords, scoredRecord, hf]
    refine findRecord_append_of_none ?_ _ ⟨rfl, rfl⟩
    split
    · exact hf
    · have hall := List.find?_eq_none.mp hf
      exact List.find?_eq_none.mpr fun y hy => hall y ((evictLowest_sublist _).subset hy)

/-- The record of a report is confirmed where it is SUSPECT and a condition of R31 holds; otherwise it stands scored. -/
theorem testRecord_scored (r : FaultReport) (s : State) :
    testRecord r.element r.cls (scored r s) =
      if (scoredRecord r s).state = .suspect ∧
          shouldConfirm (classParams s.osc.image r.cls) s.map.health (scoredRecord r s) = true then
        confirmRecord r.element r.cls (scored r s)
      else scored r s := by
  have hf : findRecord (scored r s).table.records r.element r.cls = some (scoredRecord r s) :=
    findRecord_scoredRecords r s
  simp only [testRecord, hf]
  rfl

/-- Everything that handing a report to the Fault Table can do (R25 to R31). -/
theorem handReport_cases (r : FaultReport) (s : State) :
    handReport r s = s ∨
    (Running s ∧ RoomFor r s ∧ (handReport r s = scored r s ∨
      ((scoredRecord r s).state = .suspect ∧ handReport r s = confirmRecord r.element r.cls (scored r s)))) ∨
    (Running s ∧ ¬RoomFor r s ∧ handReport r s = leaveUnrecorded r s) := by
  by_cases hr : Running s
  · rw [handReport_of_running hr]
    by_cases hroom : RoomFor r s
    · rw [takeReport_of_room hroom, testRecord_scored]
      split_ifs with hc
      · exact .inr (.inl ⟨hr, hroom, .inr ⟨hc.1, rfl⟩⟩)
      · exact .inr (.inl ⟨hr, hroom, .inl rfl⟩)
    · exact .inr (.inr ⟨hr, hroom, takeReport_of_no_room hroom⟩)
  · exact .inl (handReport_of_not_running hr r)

/-! ### Confirmation -/

/-- A record confirmed, up to the claim: CONFIRMED posted, the entry of a retained class locked (R32, steps 1 to 3). -/
def recordConfirmed (e : Element) (c : FaultClass) (s : State) : State :=
  let u := postConfirmed e (some c) (onRecord e c (confirmed s.time.uptime) s)
  if (classParams s.osc.image c).retained then lockRetained e c u else u

theorem confirmRecord_of_trial {e : Element} {s : State} (h : s.map.health.get e = .trial) (c : FaultClass) :
    confirmRecord e c s = failTrial e c true (recordConfirmed e c s) := if_pos h

theorem confirmRecord_of_not_trial {e : Element} {s : State} (h : s.map.health.get e ≠ .trial) (c : FaultClass) :
    confirmRecord e c s = confirmationClaim e c (classParams s.osc.image c).action
      (classParams s.osc.image c).retained (voidIfNamed e (recordConfirmed e c s)) := if_neg h

/-- The state that a confirmation leaves before its claim, whole. -/
theorem recordConfirmed_eq (e : Element) (c : FaultClass) (s : State) :
    recordConfirmed e c s =
      { s with
        table.records := s.table.records.map fun x => if ofPair e c x then confirmed s.time.uptime x else x
        retained.entries := entriesLockedBy e c s
        ports := s.ports.map fun v => { v with notices := { v.notices with confirmed := some (e, some c) } } } := by
  have hp : (postConfirmed e (some c) (onRecord e c (confirmed s.time.uptime) s)).retained = s.retained := rfl
  unfold recordConfirmed entriesLockedBy
  cases hr : (classParams s.osc.image c).retained with
  | false => rfl
  | true =>
    cases hl : (s.retained.entries.get e).locked with
    | false =>
      simp only [lockRetained, lockedEntry, hp, hl]
      rfl
    | true =>
      simp only [lockRetained, lockedEntry, hp, hl, if_true, setEntry, PerElement.set_get]
      rfl

section
variable (e : Element) (c : FaultClass) (s : State)

@[simp] theorem recordConfirmed_map : (recordConfirmed e c s).map = s.map := by rw [recordConfirmed_eq]
@[simp] theorem recordConfirmed_unit : (recordConfirmed e c s).unit = s.unit := by rw [recordConfirmed_eq]
@[simp] theorem recordConfirmed_osc : (recordConfirmed e c s).osc = s.osc := by rw [recordConfirmed_eq]
@[simp] theorem recordConfirmed_contact : (recordConfirmed e c s).contact = s.contact := by rw [recordConfirmed_eq]
@[simp] theorem recordConfirmed_recovery : (recordConfirmed e c s).recovery = s.recovery := by rw [recordConfirmed_eq]
@[simp] theorem recordConfirmed_table : (recordConfirmed e c s).table =
    { s.table with
      records := s.table.records.map fun x => if ofPair e c x then confirmed s.time.uptime x else x } := by
  rw [recordConfirmed_eq]
@[simp] theorem recordConfirmed_retained : (recordConfirmed e c s).retained =
    { s.retained with entries := entriesLockedBy e c s } := by rw [recordConfirmed_eq]
theorem recordConfirmed_port (p : Port) : (recordConfirmed e c s).ports.get p =
    { s.ports.get p with notices := { (s.ports.get p).notices with confirmed := some (e, some c) } } := by
  rw [recordConfirmed_eq]
  exact PerPort.get_map _ _ _

end

/-! ### The records after a confirming report -/

theorem scoreAfter_suspect {k : ClassParams} {r : FaultReport} {x : FaultRecord} (h : x.state = .suspect) :
    scoreAfter k r x = raisedScore k r x.score := by
  simp [scoreAfter, raisedScore, h, reportWeight]

theorem confirmed_joinRecord {x : FaultRecord} (h : x.state = .suspect) (k : ClassParams) (r : FaultReport)
    (now : Uptime) : confirmed now (joinRecord k r now x) = confirmedBy k r now x := by
  cases hd : r.detail <;> simp [confirmed, joinRecord, confirmedBy, scoreAfter_suspect h, hd]

theorem newRecord_score (k : ClassParams) (r : FaultReport) (now : Uptime) :
    (newRecord k r now).score = raisedScore k r 0 := by
  cases hv : r.startVote <;> simp [newRecord, raisedScore, reportWeight, hv]

theorem confirmed_newRecord (k : ClassParams) (r : FaultReport) (now : Uptime) :
    confirmed now (newRecord k r now) = confirmedAtCreation k r now := by
  simp [confirmed, confirmedAtCreation, ← newRecord_score k r now]
  simp [newRecord]

/-- The records of a report that is scored and whose record is then confirmed (R26 to R28, R32). -/
theorem confirmed_scoredRecords {r : FaultReport} {s : State} (hw : TableWellFormed s)
    (hs : (scoredRecord r s).state = .suspect) :
    ((scoredRecords r s).map fun x => if ofPair r.element r.cls x then confirmed s.time.uptime x else x) =
      recordsConfirmedBy r s := by
  cases hf : findRecord s.table.records r.element r.cls with
  | some x =>
    have hfind : s.table.records.find? (fun x => x.element == r.element && x.cls == r.cls) = some x := hf
    simp only [scoredRecord, hf] at hs
    simp only [scoredRecords, recordsConfirmedBy, hf, hfind, List.map_map]
    refine List.map_congr_left fun y hy => ?_
    have hiff := ofPair_iff_eq_found hw hf hy
    by_cases hyx : y = x
    · subst hyx
      have hpair := hiff.mpr rfl
      simp only [Function.comp, hpair, if_true, ofPair_keepsPair (keepsPair_joinRecord _ _ _)]
      exact confirmed_joinRecord (show y.state = .suspect from hs) _ _ _
    · have hpair : ¬ofPair r.element r.cls y = true := fun h => hyx (hiff.mp h)
      simp [hpair, hyx]
  | none =>
    have hfind : s.table.records.find? (fun x => x.element == r.element && x.cls == r.cls) = none := hf
    simp only [scoredRecords, recordsConfirmedBy, hf, hfind, List.map_append]
    have hall := List.find?_eq_none.mp hf
    have hothers : ∀ rs : List FaultRecord, rs ⊆ s.table.records →
        rs.map (fun x => if ofPair r.element r.cls x then confirmed s.time.uptime x else x) = rs := fun rs hrs =>
      (List.map_congr_left fun y hy => by simp [hall y (hrs hy)]).trans (List.map_id rs)
    congr 1
    · split_ifs
      · exact hothers _ (List.Subset.refl _)
      · exact hothers _ (evictLowest_sublist _).subset
    · have hnew : ofPair r.element r.cls (newRecord (classParams s.osc.image r.cls) r s.time.uptime) = true :=
        ofPair_iff.mpr ⟨rfl, rfl⟩
      simp only [List.map_cons, hnew, if_true, List.map_nil, confirmed_newRecord]

/-- The record of a report that confirms it, once it is confirmed. -/
theorem findRecord_recordsConfirmedBy {r : FaultReport} {s : State} (hw : TableWellFormed s)
    (hs : (scoredRecord r s).state = .suspect) :
    findRecord (recordsConfirmedBy r s) r.element r.cls = some (confirmed s.time.uptime (scoredRecord r s)) := by
  rw [← confirmed_scoredRecords hw hs, findRecord_map (keepsPair_confirmed _), findRecord_scoredRecords, Option.map_some]

end Sys2Proof.Machine
end

section
/-! Confirmations on an element that is not in TRIAL, whole (O41). -/

namespace Sys2Proof.Machine

/-! ### A claim behind a confirmation -/

/-- A confirmation on an element that is not in TRIAL is one claim, behind the closing of a ballot on it (R32, R125). -/
theorem confirmRecord_eq_changeHealth {e : Element} {s : State} (h : s.map.health.get e ≠ .trial) (c : FaultClass) :
    confirmRecord e c s =
      changeHealth e (confirmedHealth (s.map.health.get e) (classParams s.osc.image c).action
        (classParams s.osc.image c).retained) (some c) (voidIfNamed e (recordConfirmed e c s)) := by
  rw [confirmRecord_of_not_trial h, confirmationClaim, voidIfNamed_map, recordConfirmed_map]

/-- The state in which the claim of a confirmation is made, whole. -/
theorem voidIfNamed_recordConfirmed_eq (e : Element) (c : FaultClass) (s : State) :
    voidIfNamed e (recordConfirmed e c s) =
      { s with
        table.records := s.table.records.map fun x => if ofPair e c x then confirmed s.time.uptime x else x
        retained.entries := entriesLockedBy e c s
        recovery.ballot := if s.recovery.ballot.any (·.element == e) then none else s.recovery.ballot
        ports := s.ports.map fun v =>
          { v with
            notices :=
              { v.notices with
                confirmed := some (e, some c)
                ballot := if s.recovery.ballot.any (·.element == e) then none else v.notices.ballot
                trial := if s.recovery.ballot.any (·.element == e) then some (e, .voided .confirmed)
                  else v.notices.trial } } } := by
  rw [voidIfNamed_eq_closedWith, recordConfirmed_recovery, recordConfirmed_eq]
  cases s.recovery.ballot.any (·.element == e) <;> rfl

/-- The notices of a claim behind a confirmation, seen from before it: the ballot that was closed for the element, if there
was one, and the claim's own (R125, R126). -/
theorem Noticed.of_confirmation {s w t : State} {c : Element × Option FaultClass} {closes : Bool}
    {before : Option Trial} {void n : Option (Element × TrialOutcome)} (h : Noticed w t c closes before void)
    (hports : ∀ p, w.ports.get p = { s.ports.get p with
      notices :=
        { (s.ports.get p).notices with
          confirmed := some c
          ballot := if n.isSome then none else (s.ports.get p).notices.ballot
          trial := n.or (s.ports.get p).notices.trial } })
    (henv : w.unit.envelope = s.unit.envelope) : Noticed s t c (closes || n.isSome) before (void.or n) := by
  intro p
  rw [h p, hports p, henv]
  cases void <;> cases n <;> cases closes <;> rfl

/-- Where a claim is none, the notices are those of the confirmation alone. -/
theorem noticed_of_ports {s w : State} {c : Element × Option FaultClass} {n : Option (Element × TrialOutcome)}
    (hports : ∀ p, w.ports.get p = { s.ports.get p with
      notices :=
        { (s.ports.get p).notices with
          confirmed := some c
          ballot := if n.isSome then none else (s.ports.get p).notices.ballot
          trial := n.or (s.ports.get p).notices.trial } })
    (henv : w.unit.envelope = s.unit.envelope) : Noticed s w c n.isSome w.recovery.primary n := by
  intro p
  rw [hports p, if_pos henv, evaluationNotice_self]

/-- The TRIAL notice of the ballot that a claim behind a confirmation closes: for its element, or for a port it takes out
(R125, R126). -/
def confirmationNotice (e : Element) (before after : Health) (ballot : Option Ballot) : Option (Element × TrialOutcome) :=
  if ballot.any (·.element == e) then some (e, .voided .confirmed) else portOutNotice e before after ballot

/-- What a claim behind a confirmation leaves in the recovery unit and on the ports, from a state in which the ballot on its
element has been closed. -/
theorem changeHealth_of_confirmation {s w : State} {e : Element} {c : FaultClass} {after : Health}
    (hunit : w.unit = s.unit) (hmap : w.map = s.map)
    (hrecovery : w.recovery = { s.recovery with
      ballot := if s.recovery.ballot.any (·.element == e) then none else s.recovery.ballot })
    (hports : ∀ p, w.ports.get p = { s.ports.get p with
      notices :=
        { (s.ports.get p).notices with
          confirmed := some (e, some c)
          ballot := if s.recovery.ballot.any (·.element == e) then none else (s.ports.get p).notices.ballot
          trial := if s.recovery.ballot.any (·.element == e) then some (e, .voided .confirmed)
            else (s.ports.get p).notices.trial } }) :
    let t := changeHealth e after (some c) w
    let void := confirmationNotice e (s.map.health.get e) after s.recovery.ballot
    t.recovery =
      { ballot := if void = none then s.recovery.ballot else none
        primary := if t.unit.envelope = s.unit.envelope then s.recovery.primary
          else s.recovery.primary.map (evaluatedTrial s.recovery.nested t.unit.envelope)
        nested := s.recovery.nested } ∧
    Noticed s t (e, some c) void.isSome s.recovery.primary void := by
  intro t void
  have henv : w.unit.envelope = s.unit.envelope := by rw [hunit]
  have hrec := changeHealth_recovery e after (some c) w
  rw [hmap, henv, hrecovery] at hrec
  have hnotice : Noticed s t (e, some c)
      ((portOutNotice e (s.map.health.get e) after w.recovery.ballot).isSome ||
        (if s.recovery.ballot.any (·.element == e) then some (e, TrialOutcome.voided .confirmed) else none).isSome)
      s.recovery.primary
      ((portOutNotice e (s.map.health.get e) after w.recovery.ballot).or
        (if s.recovery.ballot.any (·.element == e) then some (e, .voided .confirmed) else none)) := by
    have hports' : ∀ p, w.ports.get p = { s.ports.get p with
        notices :=
          { (s.ports.get p).notices with
            confirmed := some (e, some c)
            ballot := if (if s.recovery.ballot.any (·.element == e) then some (e, TrialOutcome.voided .confirmed)
              else none).isSome then none else (s.ports.get p).notices.ballot
            trial := (if s.recovery.ballot.any (·.element == e) then some (e, TrialOutcome.voided .confirmed)
              else none).or (s.ports.get p).notices.trial } } := by
      intro p
      rw [hports p]
      cases s.recovery.ballot.any (·.element == e) <;> rfl
    have hprimary : w.recovery.primary = s.recovery.primary := by rw [hrecovery]
    rw [← hmap, ← hprimary]
    by_cases hsame : w.map.health.get e = after
    · have hstays := portOutNotice_of_stays (e := e) (.inr (.inl (congrArg isOut hsame))) w.recovery.ballot
      have ht : t = w := changeHealth_same hsame _
      rw [hstays, ht]
      exact noticed_of_ports hports' henv
    · exact (changeHealth_noticed (some c) hsame).of_confirmation hports' henv
  rw [hrecovery] at hnotice
  revert hrec hnotice
  simp only [void, confirmationNotice]
  cases s.recovery.ballot.any (·.element == e)
  · intro hrec hnotice
    refine ⟨hrec, ?_⟩
    simpa using hnotice
  · intro hrec hnotice
    exact ⟨hrec, hnotice⟩

/-- Settles O41: the report is scored and confirmed, and the rest is the claim. -/
theorem confirmationsSetTheHealth : Obligations.ConfirmationsSetTheHealth := by
  unfold Obligations.ConfirmationsSetTheHealth
  intro r s hrun hw hne e k meets hmeets t before after named void
  have hscored : RoomFor r s ∧ (scoredRecord r s).state = .suspect ∧
      shouldConfirm k s.map.health (scoredRecord r s) = true := by
    have should : ∀ x : FaultRecord, meets x.score x.origins → shouldConfirm k s.map.health x = true := by
      intro x hx
      simp only [shouldConfirm, Bool.or_eq_true, Bool.and_eq_true, decide_eq_true_eq]
      exact .inl hx
    rcases hmeets with ⟨x, hx, hsuspect, hm⟩ | ⟨hnone, hroom, hm⟩
    · have hrec : scoredRecord r s = joinRecord k r s.time.uptime x := by
        have hf : findRecord s.table.records r.element r.cls = some x := hx
        simp only [scoredRecord, hf]
        rfl
      rw [hrec]
      refine ⟨.inl (by rw [hx]; exact Option.some_ne_none x), hsuspect, should _ ?_⟩
      show meets (scoreAfter k r x) _
      rw [scoreAfter_suspect hsuspect]
      exact hm
    · have hrec : scoredRecord r s = newRecord k r s.time.uptime := by
        have hf : findRecord s.table.records r.element r.cls = none := hnone
        simp only [scoredRecord, hf]
        rfl
      rw [hrec]
      refine ⟨.inr hroom, rfl, should _ ?_⟩
      rw [newRecord_score]
      exact hm
  obtain ⟨hroom, hsuspect, hconfirm⟩ := hscored
  have hafter : confirmedHealth before k.action k.retained = after := by
    simp only [after]
    have hne : before ≠ .trial := hne
    cases hb : before with
    | trial => exact absurd hb hne
    | _ => cases k.retained <;> cases k.action <;> rfl
  have htake : t = changeHealth e after (some r.cls) (voidIfNamed e (recordConfirmed e r.cls (scored r s))) := by
    show handReport r s = _
    rw [handReport_of_running hrun, takeReport_of_room hroom, testRecord_scored, if_pos ⟨hsuspect, hconfirm⟩,
      confirmRecord_eq_changeHealth (s := scored r s) hne, ← hafter]
    rfl
  have hstate := voidIfNamed_recordConfirmed_eq e r.cls (scored r s)
  have hrecords : (scored r s).table.records.map
      (fun x => if ofPair e r.cls x then confirmed (scored r s).time.uptime x else x) = recordsConfirmedBy r s :=
    confirmed_scoredRecords hw hsuspect
  rw [hrecords] at hstate
  have htable : t.table = { s.table with records := recordsConfirmedBy r s } := by
    rw [htake, changeHealth_table, hstate]
    rfl
  have hretained : t.retained = { s.retained with entries := entriesLockedBy e r.cls s } := by
    rw [htake, changeHealth_retained, hstate]
    rfl
  obtain ⟨hrecovery, hnotices⟩ := changeHealth_of_confirmation (s := s) (after := after) (c := r.cls)
    (w := voidIfNamed e (recordConfirmed e r.cls (scored r s)))
    (by rw [hstate]; rfl) (by rw [hstate]; rfl) (by rw [hstate]; rfl) (fun p => by rw [hstate]; exact PerPort.get_map _ _ _)
  rw [← htake] at hrecovery hnotices
  refine ⟨⟨confirmed s.time.uptime (scoredRecord r s), ?found, rfl, rfl, rfl⟩, htable, ?map, hretained, ?ballot, hrecovery,
    fun p => congrArg (·.notices.confirmed) (hnotices p), hnotices, ?whole⟩
  case found =>
    rw [recordOf, htable]
    exact findRecord_recordsConfirmedBy hw hsuspect
  case map =>
    rw [htake, changeHealth_map, hstate]
    rfl
  case ballot =>
    intro b hb he
    have hnamed : s.recovery.ballot.any (·.element == e) = true := by simp [hb, he]
    rw [hrecovery]
    simp [confirmationNotice, hnamed]
  case whole =>
    rw [htable, hretained]
    exact htake.trans (congrArg _ hstate)

end Sys2Proof.Machine
end

section
/-! Reports on an element in TRIAL, whole (O45): the trial fails, recorded or not, and the trial behind it is promoted. -/

namespace Sys2Proof.Machine

/-! ### The slot of an element's trial -/

/-- The trial slots of an element in TRIAL: its own, and what the end of its trial leaves in PRIMARY (R143). -/
theorem slotOf_of_inFlight {r : RecoveryUnit} {e : Element} (h : InFlight r e) :
    ∃ slot, slotOf r e = some slot ∧
      remainingTrial slot r = if r.primary.any (·.element == e) then r.nested else r.primary := by
  cases hp : r.primary.any (·.element == e) with
  | true => exact ⟨.primary, by simp [slotOf, hp], rfl⟩
  | false =>
    refine ⟨.nested, ?_, rfl⟩
    rcases h with ⟨x, hx, he⟩ | ⟨x, hx, he⟩
    · simp [hx, he] at hp
    · simp [slotOf, hp, hx, he]

/-- The trials that remain once an element's slot is emptied are those of the other elements (R132, R143). -/
theorem inFlight_remaining {r : RecoveryUnit} (hs : SlotsAgree r) {e : Element} {slot : TrialSlot}
    (h : slotOf r e = some slot) (k : Element) :
    (∃ x, remainingTrial slot r = some x ∧ x.element = k) ↔ InFlight r k ∧ k ≠ e := by
  cases hp : r.primary.any (·.element == e) with
  | true =>
    obtain rfl : .primary = slot := by simpa [slotOf, hp] using h
    obtain ⟨y, hy, hye⟩ : ∃ y, r.primary = some y ∧ y.element = e := by
      simpa [Option.any_eq_true] using hp
    constructor
    · rintro ⟨x, hx, rfl⟩
      refine ⟨.inr ⟨x, hx, rfl⟩, fun he => ?_⟩
      obtain ⟨-, z, hz, -, hg⟩ := hs x hx
      obtain rfl : y = z := Option.some.inj (hy.symm.trans hz)
      exact hg (by rw [he, hye])
    · rintro ⟨⟨x, hx, rfl⟩ | ⟨x, hx, rfl⟩, hne⟩
      · obtain rfl : y = x := Option.some.inj (hy.symm.trans hx)
        exact absurd hye hne
      · exact ⟨x, hx, rfl⟩
  | false =>
    have hn : r.nested.any (·.element == e) = true := by
      cases hn : r.nested.any (·.element == e) <;> simp [slotOf, hp, hn] at h ⊢
    obtain rfl : .nested = slot := by simpa [slotOf, hp, hn] using h
    obtain ⟨y, hy, hye⟩ : ∃ y, r.nested = some y ∧ y.element = e := by
      simpa [Option.any_eq_true] using hn
    constructor
    · rintro ⟨x, hx, rfl⟩
      have hx : r.primary = some x := hx
      refine ⟨.inl ⟨x, hx, rfl⟩, fun he => ?_⟩
      simp [hx, he] at hp
    · rintro ⟨⟨x, hx, rfl⟩ | ⟨x, hx, rfl⟩, hne⟩
      · exact ⟨x, hx, rfl⟩
      · obtain rfl : y = x := Option.some.inj (hy.symm.trans hx)
        exact absurd hye hne

/-! ### A failed trial -/

/-- The state in which the claim of a failed trial is made: the slot emptied, FAILED posted, the budget reduced (R10,
R141). -/
def trialFailed (slot : TrialSlot) (e : Element) (s : State) : State :=
  setBudget e (s.map.budget.get e - 1) (trialEnded slot e .failed s)

/-- The health that a failed trial leaves (Table 1.5). -/
def healthAfterFailure (e : Element) (c : FaultClass) (recorded : Bool) (s : State) : Health :=
  failedHealth (s.map.budget.get e - 1) (classParams s.osc.image c).action (classParams s.osc.image c).retained recorded

theorem healthAfterFailure_ne_trial (e : Element) (c : FaultClass) (recorded : Bool) (s : State) :
    healthAfterFailure e c recorded s ≠ .trial := by
  unfold healthAfterFailure failedHealth
  split_ifs <;> (try split) <;> simp

/-- Health and budget after a failed trial, in whichever slot it was (R10). -/
theorem failTrial_map (e : Element) (c : FaultClass) (recorded : Bool) (s : State) :
    (failTrial e c recorded s).map =
      { health := s.map.health.set e (healthAfterFailure e c recorded s)
        budget := s.map.budget.set e (s.map.budget.get e - 1) } := by
  unfold failTrial
  cases slotOf s.recovery e <;> simp [trialFailedClaim, changeHealth_map, healthAfterFailure]

section
variable {slot : TrialSlot} {e : Element} {s : State}

theorem failTrial_eq (hslot : slotOf s.recovery e = some slot) (c : FaultClass) (recorded : Bool) :
    failTrial e c recorded s =
      evaluatePrimary (changeHealth e (healthAfterFailure e c recorded s) (some c) (trialFailed slot e s)) := by
  cases slot <;> (simp only [failTrial, hslot]; rfl)

theorem failTrial_recovery (hslot : slotOf s.recovery e = some slot) (c : FaultClass) (recorded : Bool) :
    (failTrial e c recorded s).recovery =
      { ballot := if portOutNotice e (s.map.health.get e) (healthAfterFailure e c recorded s) s.recovery.ballot = none
          then s.recovery.ballot else none
        primary := (remainingTrial slot s.recovery).map
          (evaluatedTrial none (failTrial e c recorded s).unit.envelope)
        nested := none } := by
  have hn : (trialFailed slot e s).recovery.nested = none := by simp [trialFailed]
  have hballot := changeHealth_ballot e (healthAfterFailure e c recorded s) (some c) (trialFailed slot e s)
  have hprimary := evaluatePrimary_changeHealth_primary e (healthAfterFailure e c recorded s) (some c) hn
  rw [failTrial_eq hslot, evaluatePrimary_unit]
  generalize hu : changeHealth e (healthAfterFailure e c recorded s) (some c) (trialFailed slot e s) = u at *
  have hnested : (evaluatePrimary u).recovery.nested = none := by
    rw [evaluatePrimary_recovery_nested, ← hu, changeHealth_recovery_nested, hn]
  rw [← evaluatePrimary_recovery_ballot] at hballot
  simp only [trialFailed, setBudget_recovery, setBudget_map_health, trialEnded_ballot, trialEnded_map,
    trialEnded_primary] at hballot hprimary
  rw [← hballot, ← hprimary, ← hnested]

theorem failTrial_noticed (hslot : slotOf s.recovery e = some slot) (htrial : s.map.health.get e = .trial)
    (c : FaultClass) (recorded : Bool) :
    let void := portOutNotice e .trial (healthAfterFailure e c recorded s) s.recovery.ballot
    Noticed s (failTrial e c recorded s) (e, some c) void.isSome (remainingTrial slot s.recovery)
      (void.or (some (e, .failed))) := by
  intro void
  have hhealth : (trialFailed slot e s).map.health.get e = .trial := by simp [trialFailed, htrial]
  have hne : (trialFailed slot e s).map.health.get e ≠ healthAfterFailure e c recorded s := by
    rw [hhealth]
    exact (healthAfterFailure_ne_trial e c recorded s).symm
  have hclaim := changeHealth_noticed (some c) hne
  rw [hhealth] at hclaim
  have hn : (trialFailed slot e s).recovery.nested = none := by simp [trialFailed]
  have hp : (trialFailed slot e s).recovery.primary = remainingTrial slot s.recovery := by simp [trialFailed]
  have hb : (trialFailed slot e s).recovery.ballot = s.recovery.ballot := by simp [trialFailed]
  rw [failTrial_eq hslot]
  rw [hb, hp] at hclaim
  refine (hclaim.of_posted (trialEnded_port slot e .failed s) (by simp [trialFailed])).evaluatePrimary
    (by rw [changeHealth_recovery_nested, hn]) ?_
  rw [← hp]
  exact changeHealth_primary_cases _ _ _ hn

end

/-! ### SAFE_STOP while overflow is set -/

theorem profileRank_le (f : ProfileId) : profileRank f ≤ 7 := by cases f <;> decide

theorem foldl_max_le {ns : List Nat} {m n : Nat} (hm : m ≤ n) (h : ∀ k ∈ ns, k ≤ n) : ns.foldl max m ≤ n := by
  induction ns generalizing m with
  | nil => exact hm
  | cons k ns ih =>
    exact ih (Nat.max_le.mpr ⟨hm, h k (by simp)⟩) fun j hj => h j (by simp [hj])

theorem tighter_safeStopLimits (l : Limits) : l.tighter safeStopLimits = safeStopLimits := by
  simp [Limits.tighter, safeStopLimits]

theorem applyCuts_safeStopLimits (c : Cuts) : applyCuts c safeStopLimits = safeStopLimits := by
  simp [applyCuts, safeStopLimits]

/-- P7 among the demands stops the limits (R75). -/
theorem combined_append_safeStop (image : List Byte) (ds : List ProfileId) :
    combined image (ds ++ [.safeStop]) = safeStopLimits := by
  simp only [combined, List.foldl_append, List.foldl_cons, List.foldl_nil]
  exact tighter_safeStopLimits _

/-- P7 among the demands raises the severity to 7, above which no demand or cut goes (R76). -/
theorem severityOf_append_safeStop (ds : List ProfileId) (c : Cuts) : severityOf (ds ++ [.safeStop]) c = 7 := by
  simp only [severityOf, List.map_append, List.foldl_append, List.map_cons, List.map_nil, List.foldl_cons,
    List.foldl_nil]
  refine Nat.max_eq_right (foldl_max_le (by split_ifs <;> decide) fun k hk => ?_)
  obtain ⟨f, -, rfl⟩ := List.mem_map.mp hk
  exact profileRank_le f

/-- With overflow set the target is SAFE_STOP with severity 7 (R77). -/
theorem targetOf_overflow (image : List Byte) (health : PerElement Health) (floors : PerPort (Option ProfileId)) :
    (targetOf image health floors true).env = safeStop := by
  simp only [targetOf, demands, if_true, combined_append_safeStop, severityOf_append_safeStop,
    applyCuts_safeStopLimits]
  rfl

theorem tighter_tighter (a b : Envelope) : (a.tighter b).tighter b = a.tighter b := by
  simp [Envelope.tighter, Limits.tighter]

/-- The envelope that a recompute in RUN leaves while overflow is set (R77, R87, R90). -/
def stoppedEnvelope (image : List Byte) (v : Envelope) : Envelope :=
  if (globalConfig image).dwell = 0 then safeStop else v.tighter safeStop

theorem stoppedEnvelope_stoppedEnvelope (image : List Byte) (v : Envelope) :
    stoppedEnvelope image (stoppedEnvelope image v) = stoppedEnvelope image v := by
  unfold stoppedEnvelope
  split_ifs
  · rfl
  · exact tighter_tighter v safeStop

theorem recompute_envelope_of_overflow {s : State} (hr : s.osc.part = .run) (ho : s.table.overflow = true) :
    (recompute s).unit.envelope = stoppedEnvelope s.osc.image s.unit.envelope := by
  have ht : (computeTarget s).unit.target.env = safeStop := by
    rw [computeTarget_unit_target, ho, targetOf_overflow]
  rw [recompute_unit_envelope]
  simp only [publishedEnvelope, ht]
  exact if_neg (not_not.mpr hr)

/-- Behind a recompute while overflow is set, a claim leaves the envelope as it is. -/
theorem changeHealth_envelope_of_stopped {e : Element} {h : Health} {s : State} {v : Envelope}
    (hr : s.osc.part = .run) (ho : s.table.overflow = true) (hv : s.unit.envelope = stoppedEnvelope s.osc.image v)
    (c : Option FaultClass) : (changeHealth e h c s).unit.envelope = s.unit.envelope := by
  by_cases hh : s.map.health.get e = h
  · rw [changeHealth_same hh]
  · rw [changeHealth_of_ne hh, recompute_envelope_of_overflow (by simpa using hr) (by simpa using ho)]
    simp [hv, stoppedEnvelope_stoppedEnvelope]

/-! ### The report that fails a trial -/

/-- A state in which a trial's failure is handed out, as it stands to the state in which the report came: the same health
and budgets, the trials that the failure leaves, and notices that the failure's own go over. -/
structure FailsFrom (e : Element) (c : FaultClass) (recorded : Bool) (s w : State) : Prop where
  map : w.map = s.map
  osc : w.osc = s.osc
  slot : slotOf w.recovery e = slotOf s.recovery e
  remains : ∀ slot, slotOf s.recovery e = some slot → remainingTrial slot w.recovery = remainingTrial slot s.recovery
  ballot : w.recovery.ballot = s.recovery.ballot
  noticed : ∀ closes before posted,
    Noticed w (failTrial e c recorded w) (e, some c) closes before (some posted) →
    Noticed s (failTrial e c recorded w) (e, some c) closes before (some posted)

/-- A report with room on an element in TRIAL confirms its record and fails the trial (R26, R27, R31). -/
theorem handReport_of_trial_recorded {r : FaultReport} {s : State} (hrun : Running s) (hm : HealthMatchesTable s)
    (htrial : s.map.health.get r.element = .trial) (hroom : RoomFor r s) :
    (scoredRecord r s).state = .suspect ∧
    handReport r s = failTrial r.element r.cls true (recordConfirmed r.element r.cls (scored r s)) ∧
    FailsFrom r.element r.cls true s (recordConfirmed r.element r.cls (scored r s)) := by
  have hsuspect : (scoredRecord r s).state = .suspect := by
    cases hf : findRecord s.table.records r.element r.cls with
    | none => simp only [scoredRecord, hf]; rfl
    | some x =>
      simp only [scoredRecord, hf]
      obtain ⟨he, -⟩ := ofPair_iff.mp (List.find?_some hf)
      exact (hm r.element).2.2 (.inr htrial) x (List.mem_of_find?_eq_some hf) he
  have helement : (scoredRecord r s).element = r.element :=
    (ofPair_iff.mp (List.find?_some (findRecord_scoredRecords r s))).1
  have hconfirm : shouldConfirm (classParams s.osc.image r.cls) s.map.health (scoredRecord r s) = true := by
    simp [shouldConfirm, helement, htrial]
  refine ⟨hsuspect, ?_, ⟨by simp [scored], by simp [scored], by simp [scored], fun _ _ => by simp [scored],
    by simp [scored], ?_⟩⟩
  · rw [handReport_of_running hrun, takeReport_of_room hroom, testRecord_scored, if_pos ⟨hsuspect, hconfirm⟩]
    exact confirmRecord_of_trial (s := scored r s) htrial r.cls
  · intro closes before posted h p
    have hunit : (recordConfirmed r.element r.cls (scored r s)).unit.envelope = s.unit.envelope := by simp [scored]
    rw [h p, recordConfirmed_port, hunit]
    rfl

/-- The state after overflow has been set, with its recompute (R29). -/
def overflowed (s : State) : State := if s.table.overflow then s else recompute { s with table.overflow := true }

/-- What the setting of overflow leaves: every record and the health as they were, the trials behind one that ends as they
were, and an envelope that no further recompute changes. -/
theorem overflowed_cases {s : State} (hrun : s.osc.part = .run) :
    (s.table.overflow = true ∧ overflowed s = s) ∨
    ((overflowed s).unit.envelope = stoppedEnvelope s.osc.image s.unit.envelope ∧
      (overflowed s).table = { s.table with overflow := true } ∧
      overflowed s = recompute { s with table.overflow := true }) := by
  unfold overflowed
  by_cases ho : s.table.overflow = true
  · exact .inl ⟨ho, if_pos ho⟩
  · refine .inr ?_
    rw [if_neg ho]
    exact ⟨recompute_envelope_of_overflow hrun rfl, recompute_table _, rfl⟩

/-- An evaluation of PRIMARY leaves each trial in its slot, and a SUSPENDED one before an occupied NESTED as it is. -/
theorem slots_of_recompute {s : State} (hslots : SlotsAgree s.recovery) (e : Element) :
    slotOf (recompute s).recovery e = slotOf s.recovery e ∧
    ∀ slot, slotOf s.recovery e = some slot →
      remainingTrial slot (recompute s).recovery = remainingTrial slot s.recovery := by
  have hnested : (recompute s).recovery.nested = s.recovery.nested := recompute_recovery_nested s
  have hany : (recompute s).recovery.primary.any (·.element == e) = s.recovery.primary.any (·.element == e) := by
    rw [recompute_primary]
    split
    · rfl
    · cases s.recovery.primary <;> rfl
  refine ⟨by simp only [slotOf, hnested, hany], fun slot hslot => ?_⟩
  cases slot with
  | primary => exact hnested
  | nested =>
    have hn : s.recovery.nested ≠ none := by
      intro hn
      revert hslot
      simp only [slotOf, hn]
      split_ifs <;> simp_all
    obtain ⟨n, hn'⟩ := Option.ne_none_iff_exists'.mp hn
    obtain ⟨-, y, hy, hsusp, -⟩ := hslots n hn'
    show (recompute s).recovery.primary = s.recovery.primary
    rw [recompute_primary, hy]
    split
    · rfl
    · rw [Option.map_some, evaluatedTrial_of_nested hn hsusp]

/-- A report without room on an element in TRIAL sets overflow and fails the trial "not recorded" (R9, R29). -/
theorem handReport_of_trial_unrecorded {r : FaultReport} {s : State} (hrun : s.osc.part = .run)
    (htrials : TrialsAgree s) (htrial : s.map.health.get r.element = .trial) (hroom : ¬RoomFor r s) :
    handReport r s = failTrial r.element r.cls false (overflowed s) ∧
    FailsFrom r.element r.cls false s (overflowed s) ∧
    (overflowed s).table = { s.table with overflow := true } ∧ (overflowed s).retained = s.retained := by
  have htake : handReport r s = failTrial r.element r.cls false (overflowed s) := by
    rw [handReport_of_running (.inr hrun), takeReport_of_no_room hroom]
    exact if_pos htrial
  refine ⟨htake, ?_⟩
  obtain ⟨hslots, hiff, -⟩ := htrials
  rcases overflowed_cases hrun with ⟨ho, hsame⟩ | ⟨hv, htable, heq⟩
  · rw [hsame]
    exact ⟨⟨rfl, rfl, rfl, fun _ _ => rfl, rfl, fun _ _ _ h => h⟩, by rw [← ho], rfl⟩
  · obtain ⟨hslot, hremains⟩ := slots_of_recompute (s := { s with table.overflow := true }) hslots r.element
    refine ⟨⟨?_, ?_, ?_, ?_, ?_, ?_⟩, htable, ?_⟩
    · simp [heq]
    · simp [heq]
    · rw [heq]; exact hslot
    · rw [heq]; exact hremains
    · simp [heq]
    · intro closes before posted h p
      obtain ⟨slot, hslot', -⟩ := slotOf_of_inFlight ((hiff _).mp htrial)
      have hslotw : slotOf (overflowed s).recovery r.element = some slot := by
        rw [heq]
        exact hslot.trans hslot'
      have henv : (failTrial r.element r.cls false (overflowed s)).unit.envelope = (overflowed s).unit.envelope := by
        rw [failTrial_eq hslotw, evaluatePrimary_unit]
        refine (changeHealth_envelope_of_stopped (v := s.unit.envelope) ?_ ?_ ?_ _).trans ?_
        · simp [trialFailed, heq, hrun]
        · simp [trialFailed, htable]
        · have hosc : (overflowed s).osc = s.osc := by simp [heq]
          simp only [trialFailed, setBudget_unit, setBudget_osc, trialEnded_unit, trialEnded_osc, hosc, hv]
        · simp [trialFailed]
      have hgen : (failTrial r.element r.cls false (overflowed s)).unit.generation =
          (overflowed s).unit.generation := by
        rw [failTrial_eq hslotw, evaluatePrimary_unit] at henv ⊢
        rw [changeHealth_generation]
        simp only [trialFailed, setBudget_unit, trialEnded_unit] at henv ⊢
        rw [if_pos henv]
      rw [h p, henv, hgen, if_pos rfl, heq, recompute_port]
      rfl
    · simp [heq]

/-- Settles O45: the report is recorded or not, and the failure of the trial is one claim between two evaluations. -/
theorem reportsFailTrials : Obligations.ReportsFailTrials := by
  unfold Obligations.ReportsFailTrials
  intro r s hrun hw htrials hm htrial e k recorded budget t
  obtain ⟨slot, hslot, hpromoted⟩ := slotOf_of_inFlight ((htrials.2.1 _).mp htrial)
  have hfails : ∃ w b, t = failTrial e r.cls b w ∧ FailsFrom e r.cls b s w ∧ (b = true ↔ recorded) ∧
      (recorded → t.table = { s.table with records := recordsConfirmedBy r s } ∧
        t.retained = { s.retained with entries := entriesLockedBy e r.cls s } ∧
        ∃ x, recordOf t e r.cls = some x ∧ x.state = .confirmed) ∧
      (¬recorded → t.table.records = s.table.records ∧ t.table.overflow = true ∧ t.retained = s.retained) := by
    by_cases hroom : RoomFor r s
    · obtain ⟨hsuspect, ht, hf⟩ := handReport_of_trial_recorded (.inr hrun) hm htrial hroom
      have htable : t.table = { s.table with records := recordsConfirmedBy r s } := by
        rw [show t = _ from ht, failTrial_table, recordConfirmed_table, ← confirmed_scoredRecords hw hsuspect]
        rfl
      refine ⟨_, true, ht, hf, ⟨fun _ => hroom, fun _ => rfl⟩, fun _ => ⟨htable, ?_, ?_⟩, fun hn => absurd hroom hn⟩
      · rw [show t = _ from ht, failTrial_retained, recordConfirmed_retained]
        rfl
      · refine ⟨confirmed s.time.uptime (scoredRecord r s), ?_, rfl⟩
        rw [recordOf, htable]
        exact findRecord_recordsConfirmedBy hw hsuspect
    · obtain ⟨ht, hf, htable, hretained⟩ := handReport_of_trial_unrecorded hrun htrials htrial hroom
      refine ⟨_, false, ht, hf, ⟨nofun, fun h => absurd h hroom⟩, fun h => absurd h hroom, fun _ => ?_⟩
      rw [show t = _ from ht, failTrial_table, failTrial_retained, htable, hretained]
      exact ⟨rfl, rfl, rfl⟩
  obtain ⟨w, b, ht, hf, hb, hrecorded, hunrecorded⟩ := hfails
  have hslotw : slotOf w.recovery e = some slot := hf.slot.trans hslot
  have hremains := hf.remains slot hslot
  have hmap := failTrial_map e r.cls b w
  have hrecovery := failTrial_recovery hslotw r.cls b
  have hnotices := failTrial_noticed hslotw (by rw [hf.map]; exact htrial) r.cls b
  have hafter : healthAfterFailure e r.cls b w =
      if k.retained = true ∨ ¬recorded ∨ budget = 0 then .lockedOut else match k.action with
        | .isolate => .isolated
        | .derate => .degraded := by
    simp only [healthAfterFailure, hf.map, hf.osc, failedHealth, ← hb]
    show (if k.retained = true then _ else if (!b) = true then _ else if budget = 0 then _ else _) = _
    cases k.retained <;> cases b <;> by_cases h0 : budget = 0 <;> simp [h0]
    cases k.action <;> rfl
  rw [← ht, hf.map] at hmap
  rw [← ht, hf.ballot, hf.map, hremains, htrial] at hrecovery
  rw [hf.ballot, hremains] at hnotices
  have hhealth : t.map.health.get e = healthAfterFailure e r.cls b w := by rw [hmap]; exact PerElement.get_set_self _ _ _
  have hnoticed : Noticed s t (e, some r.cls) (portOutNotice e .trial (t.map.health.get e) s.recovery.ballot).isSome
      (remainingTrial slot s.recovery)
      ((portOutNotice e .trial (t.map.health.get e) s.recovery.ballot).or (some (e, .failed))) := by
    rw [hhealth, ht]
    revert hnotices
    cases portOutNotice e .trial (healthAfterFailure e r.cls b w) s.recovery.ballot
    · exact hf.noticed _ _ _
    · exact hf.noticed _ _ _
  rw [← hhealth] at hrecovery
  have hflight : ∀ c, InFlight t.recovery c ↔ InFlight s.recovery c ∧ c ≠ e := by
    intro c
    rw [← inFlight_remaining htrials.1 hslot c, hrecovery]
    cases remainingTrial slot s.recovery <;> simp [InFlight]
  refine ⟨by rw [hmap], by rw [hmap]; exact congrArg (s.map.health.set e) hafter, fun c hc => by simp [hflight, hc], by simp [hflight], ?nested,
    fun h => (hrecorded h).2.2, fun h => ⟨(hrecorded h).1, (hrecorded h).2.1⟩, hunrecorded,
    fun p => congrArg (·.notices.confirmed) (hnoticed p), ?_⟩
  case nested =>
    rw [hrecovery]
    cases hp : s.recovery.primary.any (·.element == e) with
    | true => rfl
    | false =>
      cases hn : s.recovery.nested.any (·.element == e) with
      | true => rfl
      | false =>
        have hslot : slotOf s.recovery e = some slot := hslot
        simp [slotOf, hp, hn] at hslot
  intro promoted void
  have hpromoted : remainingTrial slot s.recovery = promoted := hpromoted
  rw [hpromoted] at hrecovery hnoticed
  refine ⟨hrecovery, fun hvoid hstands p => ?_, hnoticed⟩
  have hnotice := congrArg (·.notices.trial) (hnoticed p)
  have hvoid : portOutNotice e .trial (t.map.health.get e) s.recovery.ballot = none := hvoid
  rw [hvoid, hrecovery] at hnotice
  refine hnotice.trans ?_
  cases hx : promoted with
  | none => rfl
  | some x =>
    have hstate : x.state = (evaluatedTrial none t.unit.envelope x).state := by
      have hiff := (hstands x hx).trans (evaluatedTrial_suspended_iff t.unit.envelope x).symm
      revert hiff
      cases x.state <;> cases (evaluatedTrial none t.unit.envelope x).state <;> simp
    simp [evaluationNotice, ← hstate]

end Sys2Proof.Machine
end

section
/-! RUN entry, its four steps (O25): the retained lockouts, the envelope set at once, the adoption round, supervision. -/

namespace Sys2Proof.Machine

/-! ### The retained lockouts -/

theorem runEntryLockout_eq (e : Element) (s : State) :
    runEntryLockout e s =
      if (s.retained.entries.get e).locked = true ∧ s.map.health.get e ≠ .trial then
        changeHealth e .lockedOut (s.retained.entries.get e).cls s
      else s := by
  simp [runEntryLockout]

theorem runEntryLockout_health (e k : Element) (s : State) :
    (runEntryLockout e s).map.health.get k =
      if k = e ∧ (s.retained.entries.get k).locked = true ∧ s.map.health.get k ≠ .trial then .lockedOut
      else s.map.health.get k := by
  rw [runEntryLockout_eq]
  by_cases hk : k = e
  · subst hk
    by_cases hl : (s.retained.entries.get k).locked = true ∧ s.map.health.get k ≠ .trial
    · rw [if_pos hl, changeHealth_health, PerElement.get_set_self, if_pos ⟨rfl, hl⟩]
    · rw [if_neg hl, if_neg fun h => hl h.2]
  · rw [if_neg (c := k = e ∧ _) (fun h => hk h.1)]
    split
    · rw [changeHealth_health, PerElement.get_set, if_neg hk]
    · rfl

/-- The health of an element once the lockouts of some elements have been taken (R13). -/
theorem lockouts_health (es : List Element) (k : Element) (s : State) :
    (es.foldl (fun s e => runEntryLockout e s) s).map.health.get k =
      if k ∈ es ∧ (s.retained.entries.get k).locked = true ∧ s.map.health.get k ≠ .trial then .lockedOut
      else s.map.health.get k := by
  induction es generalizing s with
  | nil => simp
  | cons e es ih =>
    rw [List.foldl_cons, ih, runEntryLockout_retained, runEntryLockout_health]
    by_cases hk : k = e
    · subst hk
      by_cases hl : (s.retained.entries.get k).locked = true ∧ s.map.health.get k ≠ .trial
      · simp [hl]
      · simp [hl]
    · simp [hk]

/-- A drive port owes no adoption and holds no permit. -/
def AdoptionIdle (v : AdoptionRecord) : Prop := v.pending = false ∧ v.deadline = none ∧ v.latch = false

/-- What the lockouts of RUN entry leave, from a state in STARTING without ballot, trial, adoption owed or latch: a port
that they take out has lost its floor and its supervision (R13, R15). -/
structure LockoutsTaken (s u : State) : Prop where
  osc : u.osc = s.osc
  retained : u.retained = s.retained
  envelope : u.unit.envelope = s.unit.envelope
  generation : u.unit.generation = s.unit.generation
  recovery : u.recovery = s.recovery
  floors : ∀ p, u.unit.floors.get p =
    if portInService u p = true ∨ portInService s p = false then s.unit.floors.get p else none
  contact : ∀ p, portInService u p = true → u.contact.get p = s.contact.get p
  staysOut : ∀ p, portInService u p = true → portInService s p = true
  adoption : ∀ d, AdoptionIdle (u.unit.adoption.get d)

theorem LockoutsTaken.refl {s : State} (h : ∀ d, AdoptionIdle (s.unit.adoption.get d)) : LockoutsTaken s s where
  osc := rfl
  retained := rfl
  envelope := rfl
  generation := rfl
  recovery := rfl
  floors p := by cases portInService s p <;> simp
  contact _ _ := rfl
  staysOut _ h := h
  adoption := h

/-- Outside RUN a claim leaves the envelope as it is (R79). -/
theorem changeHealth_envelope_of_not_run {e : Element} {h : Health} {s : State} (hr : s.osc.part ≠ .run)
    (c : Option FaultClass) : (changeHealth e h c s).unit.envelope = s.unit.envelope := by
  by_cases hh : s.map.health.get e = h
  · rw [changeHealth_same hh]
  · rw [changeHealth_of_ne hh, recompute_unit_envelope]
    simp [publishedEnvelope, hr]

theorem portInService_changeHealth (e : Element) (h : Health) (c : Option FaultClass) (s : State) (p : Port) :
    portInService (changeHealth e h c s) p = if controllerOf p = e then !isOut h else portInService s p := by
  simp only [portInService, inService, changeHealth_health, PerElement.get_set]
  split <;> rfl

/-- Floors and supervision after a claim that takes its element out (R15). -/
theorem changeHealth_floors_contact_of_out {e : Element} {h : Health} (c : Option FaultClass) {s : State}
    (ha : isOut h = true) (p : Port) :
    (changeHealth e h c s).unit.floors.get p =
      (if controllerOf p = e ∧ portInService s p = true then none else s.unit.floors.get p) ∧
    (changeHealth e h c s).contact.get p =
      (if controllerOf p = e ∧ portInService s p = true then none else s.contact.get p) := by
  cases hb : isOut (s.map.health.get e) with
  | true =>
    obtain ⟨hf, hc⟩ := changeHealth_floors_contact_idle (e := e) (h := h) (s := s) c (.inr (hb.trans ha.symm))
    have hno : ¬(controllerOf p = e ∧ portInService s p = true) := by
      rintro ⟨rfl, hp⟩
      simp [portInService, inService, hb] at hp
    simp [hf, hc, hno]
  | false =>
    cases hp : portOf e with
    | none =>
      obtain ⟨hf, hc⟩ := changeHealth_floors_contact_idle (h := h) (s := s) c (.inl hp)
      have hno : controllerOf p ≠ e := (portOf_eq_none_iff e).mp hp p
      simp [hf, hc, hno]
    | some q =>
      have hh : s.map.health.get e ≠ h := fun heq => by rw [heq, ha] at hb; cases hb
      obtain ⟨hf, hc⟩ := changeHealth_floors_contact_out c hh hp hb ha
      obtain rfl := controllerOf_of_portOf hp
      rw [hf, hc, PerPort.get_set, PerPort.get_set]
      by_cases hpq : p = q
      · subst hpq
        simp [portInService, inService, hb]
      · have hno : controllerOf p ≠ controllerOf q := fun heq => hpq (controllerOf_injective heq)
        simp [hpq, hno]

theorem LockoutsTaken.changeHealth {s u : State} (hu : LockoutsTaken s u) (hr : s.osc.part ≠ .run)
    (hballot : s.recovery.ballot = none) (e : Element) (c : Option FaultClass) :
    LockoutsTaken s (changeHealth e .lockedOut c u) := by
  have henv : (Machine.changeHealth e .lockedOut c u).unit.envelope = u.unit.envelope :=
    changeHealth_envelope_of_not_run (by rw [hu.osc]; exact hr) c
  have hservice := portInService_changeHealth e .lockedOut c u
  have hmoved := changeHealth_floors_contact_of_out (e := e) (h := .lockedOut) c (s := u) rfl
  refine ⟨by simp [hu.osc], by simp [hu.retained], henv.trans hu.envelope, ?_, ?_, fun p => ?_, fun p hp => ?_,
    fun p hp => ?_, fun d => ?_⟩
  · rw [changeHealth_generation, if_pos henv, hu.generation]
  · have hnone : portOutNotice e (u.map.health.get e) .lockedOut u.recovery.ballot = none := by
      rw [hu.recovery, hballot]
      rfl
    rw [changeHealth_recovery, if_pos henv, if_pos hnone, hu.recovery]
  · rw [(hmoved p).1, hservice, hu.floors p]
    have hmono := hu.staysOut p
    by_cases he : controllerOf p = e
    · cases hup : portInService u p <;> cases hsp : portInService s p <;> simp_all [isOut]
    · simp [he]
  · rw [hservice] at hp
    by_cases he : controllerOf p = e
    · simp [he, isOut] at hp
    · simp only [he, if_false] at hp
      rw [(hmoved p).2, if_neg (fun h => he h.1), hu.contact p hp]
  · rw [hservice] at hp
    by_cases he : controllerOf p = e
    · simp [he, isOut] at hp
    · simp only [he, if_false] at hp
      exact hu.staysOut p hp
  · by_cases hh : u.map.health.get e = .lockedOut
    · rw [changeHealth_same hh]
      exact hu.adoption d
    · obtain ⟨hpending, hdeadline, hlatch⟩ := hu.adoption d
      rw [changeHealth_adoption c hh, if_pos henv, announce_adoption]
      simp only [AdoptionIdle]
      split_ifs <;> simp_all [isOut]

theorem LockoutsTaken.fold {s : State} (hr : s.osc.part ≠ .run) (hballot : s.recovery.ballot = none) (es : List Element)
    {u : State} (hu : LockoutsTaken s u) : LockoutsTaken s (es.foldl (fun s e => runEntryLockout e s) u) := by
  induction es generalizing u with
  | nil => exact hu
  | cons e es ih =>
    refine ih ?_
    show LockoutsTaken s (runEntryLockout e u)
    rw [runEntryLockout_eq]
    split
    · exact hu.changeHealth hr hballot e _
    · exact hu

/-! ### The envelope at RUN entry -/

section
variable (s : State)

theorem firstEnvelope_target : (firstEnvelope s).unit.target =
    targetOf s.osc.image s.map.health s.unit.floors s.table.overflow := by simp [firstEnvelope]

theorem firstEnvelope_envelope : (firstEnvelope s).unit.envelope = (firstEnvelope s).unit.target.env := by
  simp [firstEnvelope]

theorem firstEnvelope_dwell : (firstEnvelope s).unit.dwell = none := by simp [firstEnvelope]

theorem firstEnvelope_generation : (firstEnvelope s).unit.generation =
    if (firstEnvelope s).unit.envelope = s.unit.envelope then s.unit.generation else s.unit.generation + 1 := by
  rw [firstEnvelope_envelope, firstEnvelope_target]
  simp only [firstEnvelope, updateOutputs_unit, postEnvelope_unit, changeEnvelope_unit_generation]
  rfl

theorem firstEnvelope_primary (h : s.recovery.primary = none) : (firstEnvelope s).recovery.primary = none := by
  simp [firstEnvelope, changeEnvelope_primary, h]

theorem firstEnvelope_notice (p : Port) :
    ((firstEnvelope s).ports.get p).notices.envelope = some (firstEnvelope s).unit.generation := by
  simp [firstEnvelope]

theorem firstEnvelope_outputs : (firstEnvelope s).permit.outputs =
    outputsOf s.osc.part (firstEnvelope s).unit.envelope (firstEnvelope s).unit.adoption.front.latch
      (firstEnvelope s).unit.adoption.rear.latch := by
  simp [firstEnvelope]

variable {s}

/-- A change of the envelope at RUN entry starts the deadline that the adoption round would start. -/
theorem firstEnvelope_adoption {d : DrivePort} (h : AdoptionIdle (s.unit.adoption.get d)) :
    ((firstEnvelope s).unit.adoption.get d).latch = false ∧
    ((firstEnvelope s).unit.adoption.get d).deadline.getD (globalConfig s.osc.image).adoption =
      (globalConfig s.osc.image).adoption ∧
    (portRequired s d = false → AdoptionIdle ((firstEnvelope s).unit.adoption.get d)) := by
  obtain ⟨hpending, hdeadline, hlatch⟩ := h
  have hr : portRequired (setDwell none (computeTarget s)) d = portRequired s d := rfl
  simp only [firstEnvelope, updateOutputs_unit, postEnvelope_unit, changeEnvelope_adoption, hr,
    setDwell_unit_adoption, computeTarget_unit_adoption, setDwell_osc, computeTarget_osc]
  cases portRequired s d <;> split_ifs <;> simp_all [AdoptionIdle]

end

/-! ### Supervision of several ports -/

theorem supervise_contact_get (p q : Port) (s : State) :
    (supervise p s).contact.get q =
      if q = p ∧ checkInValue s.osc.image q ≠ 0 ∧ s.contact.get q = none ∧ portInService s q = true then
        some (checkInValue s.osc.image q)
      else s.contact.get q := by
  rw [supervise_contact]
  by_cases hq : q = p
  · subst hq
    split_ifs <;> simp_all
  · split_ifs <;> simp_all [PerPort.get_set]

/-- Each port of a list that is to be supervised has a full deadline once they have been supervised in turn (R57). -/
theorem supervised_contact (ps : List Port) (q : Port) (s : State) :
    (ps.foldl (fun s p => supervise p s) s).contact.get q =
      if q ∈ ps ∧ checkInValue s.osc.image q ≠ 0 ∧ s.contact.get q = none ∧ portInService s q = true then
        some (checkInValue s.osc.image q)
      else s.contact.get q := by
  induction ps generalizing s with
  | nil => simp
  | cons p ps ih =>
    have hs : portInService (supervise p s) q = portInService s q := by simp [portInService]
    rw [List.foldl_cons, ih, supervise_osc, hs, supervise_contact_get]
    by_cases hq : q = p
    · subst hq
      by_cases hc : checkInValue s.osc.image q ≠ 0 ∧ s.contact.get q = none ∧ portInService s q = true
      · simp [hc]
      · simp [hc]
    · simp [hq]

/-- The part of RUN entry that precedes supervision: the lockouts, the envelope, the adoption round (R171). -/
def runEntered (s : State) : State := adoptionRound (firstEnvelope (enterRun (applyLockouts s)))

/-- RUN entry supervises ports last, and changes nothing else by that. -/
theorem runEntry_frame {β : Type} (g : State → β) (hg : ∀ p s, g (supervise p s) = g s) (s : State) :
    g (runEntry s) = g (runEntered s) :=
  foldl_frame (fun s p => supervise p s) g hg allPorts _

/-- The health after RUN entry: LOCKED_OUT where a retained entry is locked and no trial is in flight (R152). -/
theorem runEntry_health (k : Element) (s : State) :
    (runEntry s).map.health.get k =
      if (s.retained.entries.get k).locked = true ∧ s.map.health.get k ≠ .trial then .lockedOut
      else s.map.health.get k := by
  have hmap : (runEntry s).map = (applyLockouts s).map := by
    rw [runEntry_frame State.map (by simp), runEntered, adoptionRound_map, firstEnvelope_map]
    rfl
  rw [hmap, applyLockouts, lockouts_health]
  simp [mem_allElements]

theorem adoptionIdle_of_starting {s : State} (hs : s.osc.part = .starting) (hpending : NothingPendingBeforeRun s)
    (hlatches : LatchesHold s) (d : DrivePort) : AdoptionIdle (s.unit.adoption.get d) := by
  obtain ⟨hp, hd⟩ := hpending (.inr hs) d
  refine ⟨hp, hd, ?_⟩
  cases hl : (s.unit.adoption.get d).latch with
  | false => rfl
  | true =>
    have hr := (hlatches d hl).1
    simp [portRequired, hs] at hr

/-- Settles O25: the lockouts in STARTING, the first envelope, the adoption round and the supervision, in turn. -/
theorem runEntryTakesItsFourSteps : Obligations.RunEntryTakesItsFourSteps := by
  unfold Obligations.RunEntryTakesItsFourSteps
  intro s hs hrecovery hpending hlatches t
  have ht : t = runEntry s := rfl
  clear_value t
  obtain ⟨hballot, hprimary, hnested, htrial⟩ := hrecovery (.inr hs)
  have hr : s.osc.part ≠ .run := by rw [hs]; decide
  have hlock : LockoutsTaken s (applyLockouts s) :=
    (LockoutsTaken.refl (adoptionIdle_of_starting hs hpending hlatches)).fold hr hballot allElements
  generalize ha : applyLockouts s = a at hlock
  generalize hf : firstEnvelope (enterRun a) = f
  have hosc : (enterRun a).osc.image = s.osc.image := by simp [hlock.osc]
  have hfosc : f.osc.part = .run ∧ f.osc.image = s.osc.image := by
    rw [← hf]
    exact ⟨by simp, by simp [hlock.osc]⟩
  have hentered : runEntered s = adoptionRound f := by rw [runEntered, ha, hf]
  have hunit : t.unit = (adoptionRound f).unit := by rw [ht, runEntry_frame State.unit (by simp), hentered]
  have hmap : t.map = a.map := by
    rw [ht, runEntry_frame State.map (by simp), hentered, adoptionRound_map, ← hf, firstEnvelope_map]
    simp
  have hports : t.ports = f.ports := by
    rw [ht, runEntry_frame State.ports (by simp), hentered, adoptionRound_ports]
  have hpermit : t.permit = f.permit := by
    rw [ht, runEntry_frame State.permit (by simp), hentered, adoptionRound_permit]
  have htosc : t.osc = { s.osc with part := .run, startWindow := none } := by
    rw [ht, runEntry_frame State.osc (by simp), hentered, adoptionRound_osc, ← hf, firstEnvelope_osc, ← hlock.osc]
    rfl
  have htrec : t.recovery = s.recovery := by
    have hprim : f.recovery.primary = s.recovery.primary := by
      rw [← hf, firstEnvelope_primary _ (by simp [hlock.recovery, hprimary]), hprimary]
    have hball : f.recovery.ballot = s.recovery.ballot := by rw [← hf]; simp [hlock.recovery]
    have hnest : f.recovery.nested = s.recovery.nested := by rw [← hf]; simp [hlock.recovery]
    rw [ht, runEntry_frame State.recovery (by simp), hentered, adoptionRound_recovery]
    generalize f.recovery = x at *
    generalize s.recovery = y at *
    cases x
    cases y
    simp_all
  have hservice : ∀ p, portInService t p = portInService a p := fun p => by simp [portInService, hmap]
  have hfloors : t.unit.floors = a.unit.floors := by rw [hunit, adoptionRound_unit_floors, ← hf]; simp
  have hgeneration : f.unit.generation =
      if f.unit.envelope = s.unit.envelope then s.unit.generation else s.unit.generation + 1 := by
    have h := firstEnvelope_generation (enterRun a)
    simp only [hf, enterRun_unit, hlock.envelope, hlock.generation] at h
    exact h
  have hadoption : ∀ d, (f.unit.adoption.get d).latch = false ∧
      (f.unit.adoption.get d).deadline.getD (globalConfig s.osc.image).adoption =
        (globalConfig s.osc.image).adoption ∧
      (portRequired (enterRun a) d = false → AdoptionIdle (f.unit.adoption.get d)) := by
    intro d
    have h := firstEnvelope_adoption (s := enterRun a) (d := d) (hlock.adoption d)
    rwa [hf, hosc] at h
  have hrequired : ∀ d, portRequired f d = portInService t (portOfDrive d) ∧
      portRequired (enterRun a) d = portInService t (portOfDrive d) := by
    intro d
    have hfm : f.map = a.map := by rw [← hf]; simp
    rw [hservice]
    exact ⟨by simp [portRequired, hfosc.1, portInService, hfm], rfl⟩
  have htadoption : ∀ d, t.unit.adoption.get d =
      { f.unit.adoption.get d with
        pending := (f.unit.adoption.get d).pending || portInService t (portOfDrive d)
        deadline := if portInService t (portOfDrive d) then
            some ((f.unit.adoption.get d).deadline.getD (globalConfig s.osc.image).adoption)
          else (f.unit.adoption.get d).deadline } := by
    intro d
    rw [hunit, adoptionRound_adoption, (hrequired d).1, hfosc.2]
  refine ⟨by rw [htosc], by rw [htosc], by rw [htosc], by rw [htosc], by rw [htosc], htrec, by rw [ht, runEntry_table],
    by rw [ht, runEntry_map_budget], fun e => ?health, ?target, ?envelope, ?dwell, ?generation, fun p => ?notice, fun p => ?floors,
    fun d => ?adoption, ?outputs, fun p hp hc hv => ?contact⟩
  case health =>
    rw [ht, runEntry_health]
    simp [htrial e]
  case target =>
    rw [hfloors, hmap, hunit, adoptionRound_unit_target, ← hf, firstEnvelope_target]
    have htable : a.table = s.table := by rw [← ha]; simp
    rw [hosc]
    simp [htable]
  case envelope =>
    rw [hunit, adoptionRound_unit_envelope, adoptionRound_unit_target, ← hf]
    exact firstEnvelope_envelope _
  case dwell =>
    rw [hunit, adoptionRound_unit_dwell, ← hf]
    exact firstEnvelope_dwell _
  case generation =>
    rw [hunit, adoptionRound_unit_envelope, adoptionRound_unit_generation]
    exact hgeneration
  case notice =>
    rw [hports, hunit, adoptionRound_unit_generation, ← hf]
    exact firstEnvelope_notice _ p
  case floors =>
    rw [hfloors, hservice]
    exact hlock.floors p
  case adoption =>
    obtain ⟨hlatch, hdeadline, hidle⟩ := hadoption d
    rw [htadoption]
    refine ⟨hlatch, fun hin => ?_, fun hout => ?_⟩
    · simp [hin, hdeadline]
    · obtain ⟨hp, hd, -⟩ := hidle ((hrequired d).2.trans hout)
      simp [hout, hp, hd]
  case outputs =>
    have hout := firstEnvelope_outputs (enterRun a)
    rw [hf] at hout
    have hfront : f.unit.adoption.front.latch = false := (hadoption .front).1
    have hrear : f.unit.adoption.rear.latch = false := (hadoption .rear).1
    rw [hpermit, hout, hunit, adoptionRound_unit_envelope]
    simp [outputsOf, hfront, hrear]
  case contact =>
    have hcontact : (runEntered s).contact.get p = s.contact.get p := by
      rw [hentered, adoptionRound_contact, ← hf, firstEnvelope_contact]
      exact hlock.contact p (by rwa [← hservice])
    have hin : portInService (runEntered s) p = true := by
      rw [hservice] at hp
      rw [hentered, ← hf]
      simpa [portInService] using hp
    have himage : (runEntered s).osc.image = s.osc.image := by rw [hentered, adoptionRound_osc, hfosc.2]
    have h := supervised_contact allPorts p (runEntered s)
    rw [himage, hcontact, if_pos ⟨mem_allPorts p, hv, hc, hin⟩] at h
    rw [ht]
    exact h

end Sys2Proof.Machine
end

section
/-! Everything a command can do to the parts of the state that the invariants of the health, the table and the ports speak
of: one action between two quiet changes. Each such invariant is then a matter of the actions alone. -/

namespace Sys2Proof.Machine

/-- A change that leaves the table, the health, the budgets, the floors, the retained map, the part state and the image as
they are, supervises the same ports, has the same elements in the trial slots, and opens no ballot (it may close one). -/
structure Quiet (s t : State) : Prop where
  table : t.table = s.table
  map : t.map = s.map
  floors : t.unit.floors = s.unit.floors
  supervised : ∀ p, (t.contact.get p).isSome = (s.contact.get p).isSome
  ballot : t.recovery.ballot = s.recovery.ballot ∨ t.recovery.ballot = none
  primary : t.recovery.primary.map Trial.element = s.recovery.primary.map Trial.element
  nested : t.recovery.nested.map Trial.element = s.recovery.nested.map Trial.element
  retained : t.retained = s.retained
  part : t.osc.part = s.osc.part
  image : t.osc.image = s.osc.image

theorem Quiet.refl (s : State) : Quiet s s := ⟨rfl, rfl, rfl, fun _ => rfl, .inl rfl, rfl, rfl, rfl, rfl, rfl⟩

theorem Quiet.trans {s t u : State} (h : Quiet s t) (k : Quiet t u) : Quiet s u where
  table := k.table.trans h.table
  map := k.map.trans h.map
  floors := k.floors.trans h.floors
  supervised p := (k.supervised p).trans (h.supervised p)
  ballot := k.ballot.elim (fun hk => h.ballot.imp hk.trans hk.trans) .inr
  primary := k.primary.trans h.primary
  nested := k.nested.trans h.nested
  retained := k.retained.trans h.retained
  part := k.part.trans h.part
  image := k.image.trans h.image

/-- A change outside the blocks that `Quiet` speaks of. -/
theorem Quiet.of_eq {s t : State} (table : t.table = s.table) (map : t.map = s.map)
    (floors : t.unit.floors = s.unit.floors) (contact : t.contact = s.contact) (recovery : t.recovery = s.recovery)
    (retained : t.retained = s.retained) (part : t.osc.part = s.osc.part) (image : t.osc.image = s.osc.image) :
    Quiet s t where
  table := table
  map := map
  floors := floors
  supervised _ := by rw [contact]
  ballot := .inl (by rw [recovery])
  primary := by rw [recovery]
  nested := by rw [recovery]
  retained := retained
  part := part
  image := image

/-! ### The quiet operations -/

theorem quiet_setPort (p : Port) (v : LinkPort) (s : State) : Quiet s (setPort p v s) :=
  .of_eq rfl rfl rfl rfl rfl rfl rfl rfl

theorem quiet_onNotices (p : Port) (f : NoticeSet → NoticeSet) (s : State) : Quiet s (onNotices p f s) :=
  .of_eq rfl rfl rfl rfl rfl rfl rfl rfl

theorem quiet_setAdoption (d : DrivePort) (v : AdoptionRecord) (s : State) : Quiet s (setAdoption d v s) :=
  .of_eq rfl rfl rfl rfl rfl rfl rfl rfl

theorem quiet_updateOutputs (s : State) : Quiet s (updateOutputs s) := .of_eq rfl rfl rfl rfl rfl rfl rfl rfl

theorem quiet_setDwell (t : Timer) (s : State) : Quiet s (setDwell t s) := .of_eq rfl rfl rfl rfl rfl rfl rfl rfl

theorem quiet_setLine (l : FaultLine) (v : LineFilter) (s : State) : Quiet s (setLine l v s) :=
  .of_eq rfl rfl rfl rfl rfl rfl rfl rfl

theorem quiet_disarmFrom (p : Port) (s : State) : Quiet s (disarmFrom p s) :=
  .of_eq (by simp) (by simp) (by simp) (by simp) (by simp) (by simp) (by simp) (by simp)

/-- A deadline that is loaded again leaves the port supervised (R59, R60). -/
theorem quiet_reload {p : Port} {s : State} (h : (s.contact.get p).isSome = true) (n : Nat) :
    Quiet s (setContact p (some n) s) := by
  refine ⟨rfl, rfl, rfl, fun q => ?_, .inl rfl, rfl, rfl, rfl, rfl, rfl⟩
  rw [setContact_contact, PerPort.get_set]
  by_cases hq : q = p
  · subst hq
    simp [h]
  · simp [hq]

theorem quiet_changeEnvelope (v : Envelope) (s : State) : Quiet s (changeEnvelope v s) := by
  refine ⟨by simp, by simp, by simp, by simp, .inl (by simp), ?_, by simp, by simp, by simp, by simp⟩
  rw [changeEnvelope_primary]
  split
  · rfl
  · cases s.recovery.primary <;> rfl

theorem quiet_evaluatePrimary (s : State) : Quiet s (evaluatePrimary s) := by
  refine ⟨by simp, by simp, by simp, by simp, .inl (by simp), ?_, by simp, by simp, by simp, by simp⟩
  rw [evaluatePrimary_primary]
  cases s.recovery.primary <;> rfl

theorem quiet_computeTarget (s : State) : Quiet s (computeTarget s) := .of_eq rfl rfl rfl rfl rfl rfl rfl rfl

theorem quiet_recompute (s : State) : Quiet s (recompute s) := by
  rw [recompute_eq]
  exact ((quiet_computeTarget s).trans (quiet_setDwell _ _)).trans (quiet_changeEnvelope _ _)

theorem quiet_closeBallot (o : Option TrialOutcome) (s : State) : Quiet s (closeBallot o s) := by
  refine ⟨by simp, by simp, by simp, by simp, ?_, by simp, by simp, by simp, by simp, by simp⟩
  cases hb : s.recovery.ballot with
  | none => rw [closeBallot_empty hb]; exact .inl hb
  | some b => cases o <;> simp [closeBallot, hb]

theorem closeBallot_ballot (o : Option TrialOutcome) (s : State) : (closeBallot o s).recovery.ballot = none := by
  cases hb : s.recovery.ballot with
  | none => rw [closeBallot_empty hb]; exact hb
  | some b => cases o <;> simp [closeBallot, hb]

theorem quiet_foldl {α : Type} {f : State → α → State} (hf : ∀ a s, Quiet s (f s a)) (as : List α) (s : State) :
    Quiet s (as.foldl f s) := by
  induction as generalizing s with
  | nil => exact Quiet.refl s
  | cons a as ih => exact (hf a s).trans (ih (f s a))

theorem quiet_postBallot (asked : PortSet) (e : Element) (s : State) : Quiet s (postBallot asked e s) :=
  quiet_foldl (fun _ _ => quiet_onNotices _ _ _) _ s

/-- A ballot that is opened or answered and closes at once is as one that was closed (R119, R123). -/
theorem quiet_closed_of_setBallot {s u : State} {b : Option Ballot} (hu : Quiet (setBallot b s) u)
    (o : Option TrialOutcome) : Quiet s (closeBallot o u) := by
  have h := hu.trans (quiet_closeBallot o u)
  exact ⟨h.table, h.map, h.floors, h.supervised, .inr (closeBallot_ballot o u), h.primary, h.nested, h.retained, h.part,
    h.image⟩

/-! ### The actions -/

/-- The open ballot names the element, or the element is ISOLATED or DEGRADED (R117, R121). -/
def Releasable (s : State) (e : Element) : Prop :=
  (s.map.health.get e = .isolated ∨ s.map.health.get e = .degraded) ∨
  ∃ b, s.recovery.ballot = some b ∧ b.element = e

/-- What a command does between two quiet changes. -/
inductive Act (i : Instr) (s : State) : State → Prop where
  | stay : Act i s s
  | report (r : FaultReport) : Act i s (handReport r s)
  | floor (p : Port) (f : Option ProfileId) (h : portInService s p = true) : Act i s (setFloorOf p f s)
  | opens (b : Ballot) (named : s.map.health.get b.element = .isolated ∨ s.map.health.get b.element = .degraded)
      (asks : ∀ p, b.consent.get p = true → portInService s p = true)
      (answered : ∀ p, b.answered.get p = true → b.consent.get p = true) (proper : b.answered ≠ b.consent) :
      Act i s (setBallot (some b) s)
  | answers (p : Port) (b : Ballot) (isOpen : s.recovery.ballot = some b) (asked : b.consent.get p = true)
      (proper : b.answered.set p true ≠ b.consent) :
      Act i s (setBallot (some { b with answered := b.answered.set p true }) s)
  | trial (slot : TrialSlot) (e : Element) (u : State) (closed : Quiet s u) (isClosed : u.recovery.ballot = none)
      (admitted : slotFor u.recovery e = .ok slot) (named : Releasable s e) : Act i s (startTrial slot e u)
  | pass (slot : TrialSlot) (x : Trial) (isRun : s.osc.part = .run) (held : trialIn s.recovery slot = some x) :
      Act i s (passTrial slot x s)
  | start (p : Port) (before : s.osc.part = .config ∨ s.osc.part = .starting) : Act i s (acceptStart p s)
  | window (before : s.osc.part = .starting) : Act i s (runEntry (startVoteReports s))
  | write (k : Sect) (n : Nat) (entry : List Byte) (isConfig : s.osc.part = .config) : Act i s (acceptWrite k n entry s)
  | unlock (es : List Element) : Act i s (es.foldl (fun s e => unlockEntry e s) s)
  | decay (e : Element) (c : FaultClass) (x : FaultRecord) (found : findRecord s.table.records e c = some x)
      (running : Running s) (suspect : x.state = .suspect) : Act i s (takeDecay e c x s)
  | failsafe (cause : Cause) : Act i s (requestFailsafe cause s)
  | tick : Act i s (tickTimers s)
  | corrupt (k : Fin 236) (b : Byte) (h : i = .configurationImageCorruption k b) : Act i s (corruptImage k.val b s)
  | powerOn (a b : Bool) (h : i = .powerOnReset a b) : Act i s (powerOn a b s)
  | keyCycle (h : i = .keyCycleReset) : Act i s (keyCycle s)

/-- A command's effect: one action between two quiet changes. -/
def Effect (i : Instr) (s t : State) : Prop := ∃ a b, Quiet s a ∧ Act i a b ∧ Quiet b t

theorem Quiet.effect {s t : State} (h : Quiet s t) (i : Instr) : Effect i s t := ⟨s, s, .refl s, .stay, h⟩

theorem Act.effect {i : Instr} {s t : State} (h : Act i s t) : Effect i s t := ⟨s, t, .refl s, h, .refl t⟩

theorem Effect.refl (i : Instr) (s : State) : Effect i s s := (Quiet.refl s).effect i

theorem Effect.after {i : Instr} {s t u : State} (h : Effect i t u) (k : Quiet s t) : Effect i s u := by
  obtain ⟨a, b, ha, hab, hb⟩ := h
  exact ⟨a, b, k.trans ha, hab, hb⟩

theorem Effect.before {i : Instr} {s t u : State} (h : Effect i s t) (k : Quiet t u) : Effect i s u := by
  obtain ⟨a, b, ha, hab, hb⟩ := h
  exact ⟨a, b, ha, hab, hb.trans k⟩

/-! ### Discards and requests -/

section
variable (i : Instr)

theorem discard_effect (p : Port) (k : LinkError) (s : State) : Effect i s (discard p k s) :=
  (Act.report _).effect.after ((quiet_setPort _ _ _).trans (quiet_disarmFrom _ _))

theorem overlapByte_effect (p : Port) (s : State) : Effect i s (overlapByte p s) := by
  unfold overlapByte
  split
  · exact Effect.refl i s
  · exact discard_effect i p .overlap s

theorem quiet_sendReply (p : Port) (code : Byte) (t : Taken) : Quiet t.state (sendReply p code t) := quiet_setPort _ _ _

/-- What the taking of a request does is what its owning block does. -/
theorem takeRequest_effect {p : Port} {code : Byte} {payload : List Byte} {disarms : Bool} {act : State → Taken}
    (h : ∀ u, Effect i u (act u).state) (s : State) : Effect i s (takeRequest p code payload disarms act s) := by
  have framed : Quiet s (storeFrame p code payload s) := quiet_setPort _ _ _
  have disarmed := framed.trans (quiet_disarmFrom p _)
  unfold takeRequest
  split_ifs
  · exact Effect.refl i s
  · exact overlapByte_effect i p s
  · exact discard_effect i p .length s
  · exact (disarmed.trans (quiet_sendReply p code (refuse .unknown _))).effect i
  · exact (disarmed.trans (quiet_sendReply p code (refuse .range _))).effect i
  · exact ((h _).before (quiet_sendReply _ _ _)).after disarmed
  · exact ((h _).before (quiet_sendReply _ _ _)).after framed

theorem refuse_effect (st : Status) (s : State) : Effect i s (refuse st s).state := Effect.refl i s

theorem readStatus_effect (p : Port) (page : Byte) (s : State) : Effect i s (readStatus p page s).state := by
  unfold readStatus
  split <;> exact Effect.refl i s

theorem readElement_effect (n : Byte) (s : State) : Effect i s (readElement n s).state := by
  unfold readElement
  split <;> exact Effect.refl i s

theorem readFault_effect (n : Byte) (s : State) : Effect i s (readFault n s).state := by
  unfold readFault
  split
  · exact Effect.refl i s
  · split <;> exact Effect.refl i s

theorem readRetained_effect (n : Byte) (s : State) : Effect i s (readRetained n s).state := by
  unfold readRetained
  split <;> exact Effect.refl i s

theorem readNotice_effect (p : Port) (s : State) : Effect i s (readNotice p s).state :=
  (quiet_onNotices p (fun v => (nextNotice s.recovery v).2) s).effect i

theorem readConfig_effect (k n : Byte) (s : State) : Effect i s (readConfig k n s).state := by
  unfold readConfig
  split <;> exact Effect.refl i s

theorem checkIn_effect (p : Port) (s : State) : Effect i s (checkIn p s).state := by
  unfold checkIn
  split_ifs with hf hc
  · exact refuse_effect i _ s
  · exact (quiet_reload hc _).effect i
  · exact Effect.refl i s

theorem report_effect (p : Port) (e c : Byte) (detail : Option Half) (s : State) :
    Effect i s (report p e c detail s).state := by
  unfold report
  split
  · exact refuse_effect i _ s
  · split_ifs
    · exact refuse_effect i _ s
    · split
      · split_ifs
        · exact refuse_effect i _ s
        · exact (Act.report _).effect
      · exact refuse_effect i _ s

theorem setFloor_effect (p : Port) (profile : Byte) (s : State) : Effect i s (setFloor p profile s).state := by
  unfold setFloor
  split
  · exact refuse_effect i _ s
  · split_ifs with hp
    · exact refuse_effect i _ s
    · split
      · exact refuse_effect i _ s
      · unfold acceptFloor
        dsimp only [accept]
        split_ifs
        · exact Effect.refl i s
        · exact (Act.floor p _ (by simpa using hp)).effect.before (quiet_recompute _)

theorem adopt_effect (p : Port) (generation : Half) (s : State) : Effect i s (adopt p generation s).state := by
  unfold adopt
  split
  · exact refuse_effect i _ s
  · exact refuse_effect i _ s
  · exact refuse_effect i _ s
  · split
    · exact refuse_effect i _ s
    · split_ifs
      · exact refuse_effect i _ s
      · exact refuse_effect i _ s
      · exact ((quiet_setAdoption _ _ s).trans (quiet_updateOutputs _)).effect i

/-- The passing of a ballot that stood open, or opens with its requester's answer alone (R119, R123). -/
theorem passBallot_effect {b : Ballot} {s u : State} (closes : ∀ o, Quiet s (closeBallot o u))
    (hn : Releasable s b.element) : Effect i s (passBallot b u).state := by
  unfold passBallot
  split
  case h_1 slot hslot =>
    refine (Act.trial slot b.element _ (closes none) (closeBallot_ballot none _) ?_ hn).effect
    simpa [slotFor] using hslot
  case h_2 => exact (closes (some (.voided .noSlot))).effect i

theorem openBallot_effect {p : Port} {e : Element} {s : State}
    (he : s.map.health.get e = .isolated ∨ s.map.health.get e = .degraded) : Effect i s (openBallot p e s).state := by
  unfold openBallot
  dsimp only
  split_ifs with hb
  · exact passBallot_effect i (quiet_closed_of_setBallot (Quiet.refl _)) (.inl he)
  · refine (Act.opens (newBallot p e s) he ?_ ?_ hb).effect.before (quiet_postBallot _ _ _)
    · intro q hq
      revert hq
      cases q <;> simp [newBallot, consentSet, PerPort.get]
    · intro q hq
      simp only [newBallot, PerPort.get_set] at hq ⊢
      split_ifs at hq with hqp
      · rw [hqp, hq]
      · simp [noPorts] at hq

theorem release_effect (p : Port) (element : Byte) (s : State) : Effect i s (release p element s).state := by
  unfold release
  split
  · exact refuse_effect i _ s
  · exact refuse_effect i _ s
  · exact refuse_effect i _ s
  · split
    · exact refuse_effect i _ s
    · split
      · exact refuse_effect i _ s
      · split
        · exact refuse_effect i _ s
        · rename_i he
          split
          · exact refuse_effect i _ s
          · split
            · exact refuse_effect i _ s
            · split
              · exact refuse_effect i _ s
              · split
                · exact refuse_effect i _ s
                · exact openBallot_effect i (not_not.mp he)

theorem askedBallot_ok {p : Port} {element : Byte} {s : State} {b : Ballot} (h : askedBallot p element s = .ok b) :
    s.recovery.ballot = some b ∧ b.consent.get p = true := by
  unfold askedBallot at h
  split_ifs at h
  split at h
  · cases h
  · split_ifs at h with h1 h2
    obtain rfl := Except.ok.inj h
    exact ⟨‹_›, by simpa using h2⟩

theorem answerBallot_effect {p : Port} {b : Ballot} {s : State} (hopen : s.recovery.ballot = some b)
    (hasked : b.consent.get p = true) : Effect i s (answerBallot p b s).state := by
  unfold answerBallot
  split
  · exact Effect.refl i s
  · dsimp only
    have withdrawn : Quiet (setBallot (some { b with answered := b.answered.set p true }) s)
        (onNotices p (fun v => { v with ballot := none })
          (setBallot (some { b with answered := b.answered.set p true }) s)) := quiet_onNotices _ _ _
    split
    · exact passBallot_effect i (quiet_closed_of_setBallot withdrawn) (.inr ⟨b, hopen, rfl⟩)
    · rename_i hfull
      exact (Act.answers p b hopen hasked hfull).effect.before withdrawn

theorem consent_effect (p : Port) (element : Byte) (s : State) : Effect i s (consent p element s).state := by
  unfold consent
  split
  · exact refuse_effect i _ s
  · rename_i b hb
    obtain ⟨hopen, hasked⟩ := askedBallot_ok hb
    exact answerBallot_effect i hopen hasked

theorem veto_effect (p : Port) (element : Byte) (s : State) : Effect i s (veto p element s).state := by
  unfold veto
  split
  · exact refuse_effect i _ s
  · exact (quiet_closeBallot (some .vetoed) s).effect i

theorem start_effect (p : Port) (named : Half) (s : State) : Effect i s (start p named s).state := by
  unfold start
  split_ifs with hf hr
  · exact refuse_effect i _ s
  · exact refuse_effect i _ s
  · exact refuse_effect i _ s
  · refine (Act.start p ?_).effect
    revert hf hr
    cases s.osc.part <;> simp

theorem writeConfig_effect (p : Port) (k n : Byte) (entry : List Byte) (s : State) :
    Effect i s (writeConfig p k n entry s).state := by
  unfold writeConfig
  split_ifs with hf hc
  · exact refuse_effect i _ s
  · exact refuse_effect i _ s
  · exact refuse_effect i _ s
  · split
    · exact refuse_effect i _ s
    · split_ifs
      · exact refuse_effect i _ s
      · exact refuse_effect i _ s
      · exact refuse_effect i _ s
      · exact (Act.write _ _ _ (not_not.mp hc)).effect

theorem quiet_setArm (v : Bool) (s : State) : Quiet s (setArm v s) := .of_eq rfl rfl rfl rfl rfl rfl rfl rfl

theorem serviceArm_effect (p : Port) (s : State) : Effect i s (serviceArm p s).state := by
  unfold serviceArm
  split_ifs
  · exact refuse_effect i _ s
  · exact refuse_effect i _ s
  · exact refuse_effect i _ s
  · exact refuse_effect i _ s
  · exact (quiet_setArm true s).effect i

theorem serviceClear_effect (p : Port) (which : Byte) (s : State) : Effect i s (serviceClear p which s).state := by
  unfold serviceClear
  split_ifs
  · exact refuse_effect i _ s
  · exact refuse_effect i _ s
  · exact refuse_effect i _ s
  · split
    · exact (quiet_setArm false s).effect i
    · exact (Act.unlock _).effect.after (quiet_setArm false s)

theorem unknownRequest_effect (p : Port) (code : Byte) (payload : List Byte) (s : State) :
    Effect i s (unknownRequest p code payload s) := by
  unfold unknownRequest
  split
  · exact Effect.refl i s
  · exact takeRequest_effect i (refuse_effect i _) s

/-! ### The line, the timers and the samples -/

theorem frameDiscard_effect (p : Port) (kind : FrameError) (s : State) : Effect i s (frameDiscard p kind s) := by
  unfold frameDiscard
  split
  · exact overlapByte_effect i p s
  · exact Effect.refl i s
  · exact Effect.refl i s
  · exact discard_effect i p _ s
  · exact discard_effect i p _ s

theorem gapDiscard_effect (p : Port) (s : State) : Effect i s (gapDiscard p s) := by
  unfold gapDiscard
  split
  · exact discard_effect i p .gap s
  · exact Effect.refl i s

theorem quiet_endReply (p : Port) (s : State) : Quiet s (endReply p s) := by
  unfold endReply
  split
  · exact quiet_setPort _ _ _
  · exact Quiet.refl s

theorem startFrame_effect (p : Port) (b : Byte) (s : State) : Effect i s (startFrame p b s) := by
  unfold startFrame
  split
  · exact (quiet_setPort _ _ _).effect i
  · exact Effect.refl i s
  · exact overlapByte_effect i p s

theorem decayExpiry_effect (e : Element) (c : FaultClass) (s : State) : Effect i s (decayExpiry e c s) := by
  unfold decayExpiry
  split
  · exact Effect.refl i s
  · rename_i x hx
    split_ifs with hg
    · simp only [Bool.and_eq_true, beq_iff_eq] at hg
      exact (Act.decay e c x hx ((isRunning_iff s).mp hg.1.1) hg.2).effect
    · exact Effect.refl i s

theorem checkInDeadlineExpiry_effect (p : Port) (s : State) : Effect i s (checkInDeadlineExpiry p s) := by
  unfold checkInDeadlineExpiry
  split_ifs with hg
  · simp only [ranOut, Bool.and_eq_true, beq_iff_eq] at hg
    exact (Act.report _).effect.after (quiet_reload (by rw [hg.2]; rfl) _)
  · exact Effect.refl i s

theorem quiet_dwellExpiry (s : State) : Quiet s (dwellExpiry s) := by
  unfold dwellExpiry
  split
  · exact (quiet_setDwell none s).trans (quiet_changeEnvelope _ _)
  · exact Quiet.refl s

theorem quiet_restartAdoption (d : DrivePort) (s : State) : Quiet s (restartAdoption d s) := by
  unfold restartAdoption
  dsimp only
  split
  · exact quiet_setAdoption _ _ _
  · exact Quiet.refl s

theorem adoptionDeadlineExpiry_effect (d : DrivePort) (s : State) : Effect i s (adoptionDeadlineExpiry d s) := by
  unfold adoptionDeadlineExpiry
  split
  · exact ((Act.report _).effect.after (quiet_setAdoption _ _ s)).before (quiet_restartAdoption d _)
  · exact Effect.refl i s

theorem quiet_ballotWindowExpiry (s : State) : Quiet s (ballotWindowExpiry s) := by
  unfold ballotWindowExpiry
  split
  · exact Quiet.refl s
  · split
    · exact quiet_closeBallot _ s
    · exact Quiet.refl s

theorem trialExpiry_effect (slot : TrialSlot) (s : State) : Effect i s (trialExpiry slot s) := by
  unfold trialExpiry
  split
  · exact Effect.refl i s
  · rename_i x hx
    split_ifs with hg
    · simp only [inRun, Bool.and_eq_true, beq_iff_eq] at hg
      exact (Act.pass slot x hg.1.1 hx).effect
    · exact Effect.refl i s

theorem startWindowExpiry_effect (s : State) : Effect i s (startWindowExpiry s) := by
  unfold startWindowExpiry
  split_ifs with hg
  · simp only [Bool.and_eq_true, beq_iff_eq] at hg
    exact (Act.window hg.1).effect
  · exact Effect.refl i s

theorem integrityCheckExpiry_effect (s : State) : Effect i s (integrityCheckExpiry s) := by
  have reloaded : Quiet s { s with osc.integrity := some integrityPeriod } := .of_eq rfl rfl rfl rfl rfl rfl rfl rfl
  unfold integrityCheckExpiry
  split
  · unfold checkIntegrity
    split
    · exact reloaded.effect i
    · exact (Act.failsafe _).effect.after reloaded
  · exact Effect.refl i s

theorem sampleLevel_effect (l : FaultLine) (high : Bool) (s : State) : Effect i s (sampleLevel l high s) := by
  unfold sampleLevel
  dsimp only
  split
  · exact (Act.report _).effect.after (quiet_setLine _ _ s)
  · exact (quiet_setLine _ _ s).effect i

theorem sampleEdge_effect (l : FaultLine) (high : Bool) (s : State) : Effect i s (sampleEdge l high s) := by
  unfold sampleEdge
  dsimp only
  split
  · exact (quiet_setLine _ _ s).effect i
  · split
    · exact (Act.report _).effect.after (quiet_setLine _ _ s)
    · exact (quiet_setLine _ _ s).effect i

theorem sampleLine_effect (l : FaultLine) (high : Bool) (s : State) : Effect i s (sampleLine l high s) := by
  unfold sampleLine
  split
  · split
    · exact sampleLevel_effect i l high s
    · exact sampleEdge_effect i l high s
  · exact Effect.refl i s

theorem lineQualify_effect (l : FaultLine) (s : State) : Effect i s (lineQualify l s) := by
  unfold lineQualify
  dsimp only
  split
  · exact sampleLine_effect i l _ s
  · exact Effect.refl i s

theorem lineUnqualify_effect (l : FaultLine) (s : State) : Effect i s (lineUnqualify l s) := by
  unfold lineUnqualify
  dsimp only
  split
  · exact sampleLine_effect i l _ s
  · exact Effect.refl i s

theorem lineEdge_effect (l : FaultLine) (s : State) : Effect i s (lineEdge l s) := by
  unfold lineEdge
  dsimp only
  split
  · exact sampleLine_effect i l _ s
  · exact Effect.refl i s

theorem quiet_countMismatches (v : Readback) (s : State) : Quiet s (countMismatches v s) :=
  .of_eq rfl rfl rfl rfl rfl rfl rfl rfl

theorem sampleReadback_effect (first : DrivePort) (v : Readback) (s : State) : Effect i s (sampleReadback first v s) := by
  rcases sampleReadback_cases first v s with h | ⟨d, -, h⟩
  · rw [h]
    exact (quiet_countMismatches v s).effect i
  · rw [h]
    exact (Act.failsafe _).effect.after (quiet_countMismatches v s)

theorem readbackMismatch_effect (m : ThirdMismatch) (s : State) : Effect i s (readbackMismatch m s) := by
  unfold readbackMismatch
  split
  · exact sampleReadback_effect i _ _ s
  · exact Effect.refl i s

theorem quiet_sampleSvc (asserted : Bool) (s : State) : Quiet s (sampleSvc asserted s) :=
  .of_eq rfl rfl rfl rfl rfl rfl rfl rfl

theorem tick_effect (s : State) : Effect i s (tick s) := by
  have counted : Quiet s (tickUptime s) := .of_eq rfl rfl rfl rfl rfl rfl rfl rfl
  unfold tick
  split
  · exact counted.effect i
  · exact Act.tick.effect.after counted

theorem unlessHeld_effect {f : State → State} {s : State} (h : Effect i s (f s)) : Effect i s (unlessHeld f s) := by
  unfold unlessHeld
  split
  · exact Effect.refl i s
  · exact h

end

/-- Every command's effect is one action between two quiet changes. -/
theorem exec_effect {i : Instr} {s t : State} (h : exec i s = .next t) : Effect i s t := by
  cases i <;> obtain rfl := Host.Outcome.next.inj h
  case readStatus p page => exact takeRequest_effect _ (readStatus_effect _ p page) s
  case readEnvelope p => exact takeRequest_effect _ (fun u => Effect.refl _ u) s
  case readElement p n => exact takeRequest_effect _ (readElement_effect _ n) s
  case readFault p n => exact takeRequest_effect _ (readFault_effect _ n) s
  case readRetained p n => exact takeRequest_effect _ (readRetained_effect _ n) s
  case readNotice p => exact takeRequest_effect _ (readNotice_effect _ p) s
  case readConfig p k n => exact takeRequest_effect _ (readConfig_effect _ k n) s
  case checkIn p => exact takeRequest_effect _ (checkIn_effect _ p) s
  case report p e c detail => exact takeRequest_effect _ (report_effect _ p e c detail) s
  case setFloor p profile => exact takeRequest_effect _ (setFloor_effect _ p profile) s
  case adopt p generation => exact takeRequest_effect _ (adopt_effect _ p generation) s
  case release p element => exact takeRequest_effect _ (release_effect _ p element) s
  case consent p element => exact takeRequest_effect _ (consent_effect _ p element) s
  case veto p element => exact takeRequest_effect _ (veto_effect _ p element) s
  case start p named => exact takeRequest_effect _ (start_effect _ p named) s
  case writeConfig p k n entry => exact takeRequest_effect _ (writeConfig_effect _ p k n entry) s
  case serviceArm p => exact takeRequest_effect _ (serviceArm_effect _ p) s
  case serviceClear p which => exact takeRequest_effect _ (serviceClear_effect _ p which) s
  case unknownRequest p code payload => exact unknownRequest_effect _ p code payload s
  case frameDiscard p kind => exact unlessHeld_effect _ (frameDiscard_effect _ p kind s)
  case gapDiscard p => exact unlessHeld_effect _ (gapDiscard_effect _ p s)
  case replyComplete p => exact unlessHeld_effect _ ((quiet_endReply p s).effect _)
  case powerOnReset a b => exact (Act.powerOn a b rfl).effect
  case keyCycleReset => exact unlessHeld_effect _ (Act.keyCycle rfl).effect
  case resetEnd =>
    split
    · exact (Quiet.of_eq rfl rfl rfl rfl rfl rfl rfl rfl : Quiet s (endReset s)).effect _
    · exact Effect.refl _ s
  case decayExpiry e c => exact unlessHeld_effect _ (decayExpiry_effect _ e c s)
  case checkInDeadlineExpiry p => exact unlessHeld_effect _ (checkInDeadlineExpiry_effect _ p s)
  case dwellExpiry => exact unlessHeld_effect _ ((quiet_dwellExpiry s).effect _)
  case adoptionDeadlineExpiry d => exact unlessHeld_effect _ (adoptionDeadlineExpiry_effect _ d s)
  case ballotWindowExpiry => exact unlessHeld_effect _ ((quiet_ballotWindowExpiry s).effect _)
  case trialExpiry slot => exact unlessHeld_effect _ (trialExpiry_effect _ slot s)
  case startWindowExpiry => exact unlessHeld_effect _ (startWindowExpiry_effect _ s)
  case integrityCheckExpiry => exact unlessHeld_effect _ (integrityCheckExpiry_effect _ s)
  case lineQualify l => exact unlessHeld_effect _ (lineQualify_effect _ l s)
  case lineUnqualify l => exact unlessHeld_effect _ (lineUnqualify_effect _ l s)
  case lineEdge l => exact unlessHeld_effect _ (lineEdge_effect _ l s)
  case readbackMismatch m => exact unlessHeld_effect _ (readbackMismatch_effect _ m s)
  case svcDeasserted => exact unlessHeld_effect _ ((quiet_sampleSvc false s).effect _)
  case lineSample l high => exact unlessHeld_effect _ (sampleLine_effect _ l high s)
  case readbackSample first levels => exact unlessHeld_effect _ (sampleReadback_effect _ first levels s)
  case svcAsserted => exact unlessHeld_effect _ ((quiet_sampleSvc true s).effect _)
  case millisecondTick => exact unlessHeld_effect _ (tick_effect _ s)
  case configurationImageCorruption k b => exact unlessHeld_effect _ (Act.corrupt k b rfl).effect
  case frameStart p b => exact unlessHeld_effect _ (startFrame_effect _ p b s)

/-- One step takes the command at the front of the queue, or idles; the queue itself is no part of any effect. -/
theorem step_effect {s t : State} (h : step s = .next t) :
    t = s ∨ ∃ i rest, s.pending = i :: rest ∧ Effect i s t := by
  unfold step at h
  split at h
  · exact .inl (Host.Outcome.next.inj h).symm
  · rename_i i rest hq
    exact .inr ⟨i, rest, hq, (exec_effect h).after (.of_eq rfl rfl rfl rfl rfl rfl rfl rfl)⟩

end Sys2Proof.Machine
end

section
/-! Ports out of service stay without floor, supervision or a part in the open ballot (O48). -/

namespace Sys2Proof.Machine

/-- No port out of service has a floor, is supervised or is asked by the open ballot (R57, R70, R126). -/
def PortsBare (s : State) : Prop := FloorsInService s ∧ SupervisedInService s ∧ BallotAsksInService s

/-- The invariant speaks of the health, the floors, the supervision and the ballot alone. -/
theorem PortsBare.of_parts {s t : State} (h : PortsBare s) (health : t.map.health = s.map.health)
    (floors : t.unit.floors = s.unit.floors) (supervised : ∀ p, (t.contact.get p).isSome = (s.contact.get p).isSome)
    (ballot : t.recovery.ballot = s.recovery.ballot ∨ t.recovery.ballot = none) : PortsBare t := by
  obtain ⟨hf, hs, hb⟩ := h
  have hi : ∀ p, portInService t p = portInService s p := fun p => by rw [portInService, portInService, health]
  refine ⟨fun p hp => ?_, fun p hp => ?_, fun b hballot => ?_⟩
  · rw [hi]
    exact hf p (by rwa [← floors])
  · rw [hi]
    refine hs p ?_
    rw [Ne, ← Option.not_isSome_iff_eq_none, supervised, Option.not_isSome_iff_eq_none] at hp
    exact hp
  · rcases ballot with h | h
    · obtain ⟨hasks, hrest⟩ := hb b (by rw [← h, hballot])
      exact ⟨fun p hp => (hi p).trans (hasks p hp), hrest⟩
    · rw [h] at hballot
      cases hballot

theorem PortsBare.quiet {s t : State} (h : PortsBare s) (hq : Quiet s t) : PortsBare t :=
  h.of_parts (by rw [hq.map]) hq.floors hq.supervised hq.ballot

/-- A claim takes the floor, the supervision and the ballot of the port that goes out with it (R15). -/
theorem PortsBare.changeHealth {s : State} (hs : PortsBare s) (e : Element) (h : Health) (c : Option FaultClass) :
    PortsBare (changeHealth e h c s) := by
  obtain ⟨hf, hc, hb⟩ := hs
  have hservice := portInService_changeHealth e h c s
  by_cases hh : s.map.health.get e = h
  · rw [changeHealth_same hh]
    exact ⟨hf, hc, hb⟩
  rcases announce_trichotomy e (s.map.health.get e) h with ⟨q, hq, hin, hout⟩ | ⟨q, hq, hout, hin⟩ | hidle
  · obtain ⟨hfloors, hcontact⟩ := changeHealth_floors_contact_out c hh hq hin hout
    have hother : ∀ p, p ≠ q → portInService (Machine.changeHealth e h c s) p = portInService s p := by
      intro p hp
      rw [hservice, if_neg fun he => hp (controllerOf_injective (he.trans (controllerOf_of_portOf hq).symm))]
    refine ⟨fun p hp => ?_, fun p hp => ?_, fun b hballot => ?_⟩
    · rw [hfloors, PerPort.get_set] at hp
      split_ifs at hp with hpq
      · exact absurd rfl hp
      · exact (hother p hpq).trans (hf p hp)
    · rw [hcontact, PerPort.get_set] at hp
      split_ifs at hp with hpq
      · exact absurd rfl hp
      · exact (hother p hpq).trans (hc p hp)
    · rw [changeHealth_ballot] at hballot
      split_ifs at hballot with hnotice
      obtain ⟨hasks, hrest⟩ := hb b hballot
      rw [hballot, portOutNotice_eq_none_iff hq hin hout] at hnotice
      refine ⟨fun p hp => ?_, hrest⟩
      have hpq : p ≠ q := by
        rintro rfl
        rw [hnotice] at hp
        cases hp
      exact (hother p hpq).trans (hasks p hp)
  · obtain ⟨hfloors, hcontact⟩ := changeHealth_floors_contact_returned c hh hq hout hin
    have hmore : ∀ p, portInService s p = true → portInService (Machine.changeHealth e h c s) p = true := by
      intro p hp
      rw [hservice]
      split
      · rw [hin]; rfl
      · exact hp
    refine ⟨fun p hp => hmore p (hf p (by rwa [← hfloors])), fun p hp => ?_, fun b hballot => ?_⟩
    · by_cases hpq : p = q
      · rw [hservice, if_pos (hpq ▸ controllerOf_of_portOf hq), hin]
        rfl
      · rw [hcontact] at hp
        refine hmore p (hc p ?_)
        split_ifs at hp
        · rwa [PerPort.get_set, if_neg hpq] at hp
        · exact hp
    · rw [changeHealth_ballot, portOutNotice_of_stays (.inr (.inr hin)), if_pos rfl] at hballot
      obtain ⟨hasks, hrest⟩ := hb b hballot
      exact ⟨fun p hp => hmore p (hasks p hp), hrest⟩
  · obtain ⟨hfloors, hcontact⟩ := changeHealth_floors_contact_idle c hidle
    have hsame : ∀ p, portInService (Machine.changeHealth e h c s) p = portInService s p := by
      intro p
      rw [hservice]
      split
      case isFalse => rfl
      case isTrue he =>
        subst he
        have hiso : isOut (s.map.health.get (controllerOf p)) = isOut h := hidle.resolve_left (by simp)
        rw [portInService, inService, hiso]
    refine ⟨fun p hp => (hsame p).trans (hf p (by rwa [← hfloors])),
      fun p hp => (hsame p).trans (hc p (by rwa [← hcontact])), fun b hballot => ?_⟩
    rw [changeHealth_ballot, portOutNotice_of_stays (hidle.imp_right .inl), if_pos rfl] at hballot
    obtain ⟨hasks, hrest⟩ := hb b hballot
    exact ⟨fun p hp => (hsame p).trans (hasks p hp), hrest⟩

theorem foldl_keeps {α : Type} {P : State → Prop} {f : State → α → State} (hf : ∀ a s, P s → P (f s a)) (as : List α)
    {s : State} (hs : P s) : P (as.foldl f s) := by
  induction as generalizing s with
  | nil => exact hs
  | cons a as ih => exact ih (hf a s hs)

theorem PortsBare.failTrial {s : State} (hs : PortsBare s) (e : Element) (c : FaultClass) (recorded : Bool) :
    PortsBare (failTrial e c recorded s) := by
  have ended : ∀ u : State, PortsBare u → PortsBare (evaluatePrimary (trialFailedClaim e c recorded
      (postTrial e .failed u))) := by
    intro u hu
    refine PortsBare.quiet ?_ (quiet_evaluatePrimary _)
    exact PortsBare.changeHealth (hu.of_parts (by simp) (by simp) (fun _ => by simp) (.inl (by simp))) _ _ _
  unfold Machine.failTrial
  dsimp only
  split
  · exact ended _ (hs.of_parts (by simp) (by simp) (fun _ => by simp) (.inl (by simp)))
  · exact ended _ hs

theorem PortsBare.confirmRecord {s : State} (hs : PortsBare s) (e : Element) (c : FaultClass) :
    PortsBare (confirmRecord e c s) := by
  have hc : PortsBare (recordConfirmed e c s) :=
    hs.of_parts (by simp) (by simp) (fun _ => by simp) (.inl (by simp))
  by_cases ht : s.map.health.get e = .trial
  · rw [confirmRecord_of_trial ht]
    exact hc.failTrial _ _ _
  · rw [confirmRecord_eq_changeHealth ht]
    refine PortsBare.changeHealth ?_ _ _ _
    rw [voidIfNamed_eq_closedWith]
    refine hc.of_parts ?_ (by simp) (fun _ => by simp) ?_
    · split_ifs <;> rfl
    · rw [closedWith_ballot]
      split_ifs <;> simp

theorem PortsBare.handReport {s : State} (hs : PortsBare s) (r : FaultReport) : PortsBare (handReport r s) := by
  have hscored : PortsBare (scored r s) := hs.of_parts rfl rfl (fun _ => rfl) (.inl rfl)
  rcases handReport_cases r s with h | ⟨-, -, h | ⟨-, h⟩⟩ | ⟨-, -, h⟩
  · rwa [h]
  · rwa [h]
  · rw [h]
    exact hscored.confirmRecord _ _
  · have hover : PortsBare (overflowed s) := by
      unfold overflowed
      split
      · exact hs
      · exact (hs.of_parts (t := { s with table.overflow := true }) rfl rfl (fun _ => rfl) (.inl rfl)).quiet
          (quiet_recompute _)
    rw [h]
    show PortsBare (if s.map.health.get r.element = .trial then Machine.failTrial r.element r.cls false (overflowed s)
      else overflowed s)
    split
    · exact hover.failTrial _ _ _
    · exact hover

theorem PortsBare.supervise {s : State} (hs : PortsBare s) (p : Port) : PortsBare (supervise p s) := by
  obtain ⟨hf, hc, hb⟩ := hs
  have hi : ∀ q, portInService (Machine.supervise p s) q = portInService s q := fun q => by simp [portInService]
  refine ⟨fun q hq => ?_, fun q hq => ?_, fun b hballot => ?_⟩
  · rw [hi]
    exact hf q (by simpa using hq)
  · rw [hi]
    rw [supervise_contact_get] at hq
    split_ifs at hq with hnew
    · exact hnew.2.2.2
    · exact hc q hq
  · obtain ⟨hasks, hrest⟩ := hb b (by simpa using hballot)
    exact ⟨fun q hq => (hi q).trans (hasks q hq), hrest⟩

theorem PortsBare.applyLockouts {s : State} (hs : PortsBare s) : PortsBare (applyLockouts s) := by
  refine foldl_keeps (f := fun s e => runEntryLockout e s) (fun e u hu => ?_) allElements hs
  rw [runEntryLockout_eq]
  split
  · exact hu.changeHealth _ _ _
  · exact hu

theorem PortsBare.runEntry {s : State} (hs : PortsBare s) : PortsBare (runEntry s) := by
  have hentered : PortsBare (enterRun (Machine.applyLockouts s)) :=
    hs.applyLockouts.of_parts rfl rfl (fun _ => rfl) (.inl rfl)
  have hround : PortsBare (runEntered s) :=
    hentered.of_parts (by simp [runEntered]) (by simp [runEntered]) (fun _ => by simp [runEntered])
      (.inl (by simp [runEntered]))
  exact foldl_keeps (f := fun s p => Machine.supervise p s) (fun p u hu => hu.supervise p) allPorts hround

theorem PortsBare.startVoteReports {s : State} (hs : PortsBare s) : PortsBare (startVoteReports s) :=
  foldl_keeps (f := fun s p => Machine.handReport (startVoteReport p) s) (fun _ _ hu => hu.handReport _) _ hs

theorem PortsBare.acceptStart {s : State} (hs : PortsBare s) (p : Port) : PortsBare (acceptStart p s) := by
  unfold Machine.acceptStart
  dsimp only
  split
  · exact (hs.of_parts (t := enterStarting p s) rfl rfl (fun _ => rfl) (.inl rfl)).supervise p
  · split
    · exact hs
    · have hjoined := (hs.of_parts (t := joinStarted p s) rfl rfl (fun _ => rfl) (.inl rfl)).supervise p
      split
      · exact hjoined.runEntry
      · exact hjoined

theorem PortsBare.acceptWrite {s : State} (hs : PortsBare s) (k : Sect) (n : Nat) (entry : List Byte) :
    PortsBare (acceptWrite k n entry s) := by
  have hput : PortsBare { s with osc.image := putEntry s.osc.image k n entry } :=
    hs.of_parts rfl rfl (fun _ => rfl) (.inl rfl)
  unfold Machine.acceptWrite afterWrite
  split
  · split
    · exact hput.of_parts rfl rfl (fun _ => rfl) (.inl rfl)
    · exact hput
  · exact hput.quiet (quiet_recompute _)
  · exact hput.quiet (quiet_recompute _)
  all_goals exact hput

theorem PortsBare.startTrial {s : State} (hs : PortsBare s) (slot : TrialSlot) (e : Element) :
    PortsBare (startTrial slot e s) := by
  have hplaced : PortsBare (trialPlaced slot e s) := hs.of_parts (by simp) (by simp) (fun _ => by simp) (.inl (by simp))
  show PortsBare (trialStartClaim e (trialPlaced slot e s))
  unfold trialStartClaim
  split
  · exact hplaced.changeHealth _ _ _
  · exact hplaced.changeHealth _ _ _
  all_goals exact hplaced

theorem PortsBare.passTrial {s : State} (hs : PortsBare s) (slot : TrialSlot) (x : Trial) :
    PortsBare (passTrial slot x s) := by
  have hended : PortsBare (trialEnded slot x.element .passed s) :=
    hs.of_parts (by simp) (by simp) (fun _ => by simp) (.inl (by simp))
  refine PortsBare.quiet ?_ (quiet_evaluatePrimary _)
  show PortsBare (trialPassedClaim x.element (trialEnded slot x.element .passed s))
  unfold trialPassedClaim
  split
  · exact hended.changeHealth _ _ _
  · exact hended

/-- A port in service may set a floor. -/
theorem PortsBare.setFloorOf {s : State} (hs : PortsBare s) {p : Port} (hp : portInService s p = true)
    (f : Option ProfileId) : PortsBare (setFloorOf p f s) := by
  obtain ⟨hf, hc, hb⟩ := hs
  refine ⟨fun q hq => ?_, hc, hb⟩
  rw [setFloorOf_unit_floors, PerPort.get_set] at hq
  split_ifs at hq with hqp
  · exact hqp ▸ hp
  · exact hf q hq

theorem PortsBare.setBallot {s : State} (hs : PortsBare s) {b : Ballot}
    (asks : ∀ p, b.consent.get p = true → portInService s p = true)
    (answered : ∀ p, b.answered.get p = true → b.consent.get p = true) (proper : b.answered ≠ b.consent) :
    PortsBare (setBallot (some b) s) := by
  refine ⟨hs.1, hs.2.1, fun x hx => ?_⟩
  obtain rfl := Option.some.inj hx
  exact ⟨asks, answered, proper⟩

/-- After a reset every port is in service, and there is no ballot. -/
theorem portsBare_resetBlocks (image : List Byte) (p : Port) (m : RetainedMap) (s : State) :
    PortsBare (resetBlocks image p m s) := by
  have hin : ∀ q, portInService (resetBlocks image p m s) q = true := fun q => by cases q <;> rfl
  exact ⟨fun q _ => hin q, fun q _ => hin q, fun b hb => nomatch hb⟩

theorem PortsBare.tickTimers {s : State} (hs : PortsBare s) : PortsBare (tickTimers s) := by
  have hcounted : PortsBare { Machine.tickTimers s with recovery.ballot := s.recovery.ballot } :=
    hs.of_parts rfl rfl (fun p => by simp [Machine.tickTimers, tickTimer]) (.inl rfl)
  obtain ⟨hf, hc, hb⟩ := hcounted
  refine ⟨hf, hc, fun b hballot => ?_⟩
  obtain ⟨x, hx, rfl⟩ := Option.map_eq_some_iff.mp hballot
  exact hb x hx

theorem Act.keeps_portsBare {i : Instr} {s t : State} (h : Act i s t) (hs : PortsBare s) : PortsBare t := by
  cases h with
  | stay => exact hs
  | report r => exact hs.handReport r
  | floor p f hp => exact hs.setFloorOf hp f
  | opens b named asks answered proper => exact hs.setBallot asks answered proper
  | answers p b isOpen asked proper =>
    obtain ⟨hasks, hanswered, -⟩ := hs.2.2 b isOpen
    refine hs.setBallot hasks (fun q hq => ?_) proper
    rw [PerPort.get_set] at hq
    split_ifs at hq with hqp
    · exact hqp ▸ asked
    · exact hanswered q hq
  | trial slot e u closed isClosed admitted named => exact (hs.quiet closed).startTrial slot e
  | pass slot x isRun held => exact hs.passTrial slot x
  | start p before => exact hs.acceptStart p
  | window before => exact hs.startVoteReports.runEntry
  | write k n entry isConfig => exact hs.acceptWrite k n entry
  | unlock es =>
    exact foldl_keeps (f := fun s e => unlockEntry e s)
      (fun e u hu => hu.of_parts rfl rfl (fun _ => rfl) (.inl rfl)) es hs
  | decay e c x found running suspect =>
    unfold takeDecay
    dsimp only
    split
    · exact hs.of_parts rfl rfl (fun _ => rfl) (.inl rfl)
    · exact hs.of_parts rfl rfl (fun _ => rfl) (.inl rfl)
  | failsafe cause => exact hs.of_parts (by simp) (by simp) (fun _ => by simp) (.inl (by simp))
  | tick => exact hs.tickTimers
  | corrupt k b h =>
    unfold corruptImage
    split
    · exact hs.of_parts rfl rfl (fun _ => rfl) (.inl rfl)
    · exact hs
  | powerOn a b h => exact portsBare_resetBlocks _ _ _ s
  | keyCycle h => exact portsBare_resetBlocks _ _ _ s

/-- Settles O48: a step's one action keeps the invariant, and so do the quiet changes around it. -/
theorem stepKeepsOutOfServicePortsBare : Obligations.StepKeepsOutOfServicePortsBare := by
  unfold Obligations.StepKeepsOutOfServicePortsBare
  intro s t hs hstep
  rcases step_effect hstep with rfl | ⟨i, rest, -, a, b, ha, hact, hb⟩
  · exact hs
  · exact (hact.keeps_portsBare (PortsBare.quiet hs ha)).quiet hb

end Sys2Proof.Machine
end

section
/-! The CONFIRMED records of an element, and what each action does to them, to the health and to the budgets: the health
stays in step with the table (O50), and nothing is forgotten before a reset (O58). -/

namespace Sys2Proof.Machine

/-! ### CONFIRMED records -/

/-- The list holds a CONFIRMED record of an element and class. -/
def ConfirmedIn (rs : List FaultRecord) (e : Element) (c : FaultClass) : Prop :=
  ∃ x ∈ rs, x.element = e ∧ x.cls = c ∧ x.state = .confirmed

@[simp] theorem confirmedIn_nil (e : Element) (c : FaultClass) : ¬ConfirmedIn [] e c := by
  rintro ⟨x, hx, -⟩
  cases hx

/-- An update of the records that keeps their pairs and states keeps the CONFIRMED ones. -/
theorem confirmedIn_map {f : FaultRecord → FaultRecord} (hf : KeepsPair f) (hs : ∀ x, (f x).state = x.state)
    (rs : List FaultRecord) (e : Element) (c : FaultClass) : ConfirmedIn (rs.map f) e c ↔ ConfirmedIn rs e c := by
  simp only [ConfirmedIn, List.mem_map]
  constructor
  · rintro ⟨y, ⟨x, hx, rfl⟩, he, hc, hstate⟩
    exact ⟨x, hx, (hf x).1.symm.trans he, (hf x).2.symm.trans hc, (hs x).symm.trans hstate⟩
  · rintro ⟨x, hx, he, hc, hstate⟩
    exact ⟨f x, ⟨x, hx, rfl⟩, (hf x).1.trans he, (hf x).2.trans hc, (hs x).trans hstate⟩

theorem keepsPair_onPair {f : FaultRecord → FaultRecord} (hf : KeepsPair f) (e : Element) (c : FaultClass) :
    KeepsPair fun x => if ofPair e c x then f x else x := by
  intro x
  dsimp only
  split
  · exact hf x
  · exact ⟨rfl, rfl⟩

/-- A list from which only SUSPECT records have gone has the same CONFIRMED ones. -/
theorem confirmedIn_of_sublist {rs us : List FaultRecord} (hsub : us ⊆ rs)
    (hkept : ∀ x ∈ rs, x.state = .confirmed → x ∈ us) (e : Element) (c : FaultClass) :
    ConfirmedIn us e c ↔ ConfirmedIn rs e c :=
  ⟨fun ⟨x, hx, h⟩ => ⟨x, hsub hx, h⟩, fun ⟨x, hx, he, hc, hs⟩ => ⟨x, hkept x hx hs, he, hc, hs⟩⟩

theorem confirmedIn_append_suspect {x : FaultRecord} (hx : x.state = .suspect) (rs : List FaultRecord) (e : Element)
    (c : FaultClass) : ConfirmedIn (rs ++ [x]) e c ↔ ConfirmedIn rs e c := by
  refine (confirmedIn_of_sublist (List.subset_append_left rs [x]) (fun y hy hs => ?_) e c).symm
  rcases List.mem_append.mp hy with hy | hy
  · exact hy
  · obtain rfl := List.mem_singleton.mp hy
    rw [hx] at hs
    cases hs

theorem isSuspect_of_confirmed {x : FaultRecord} (h : x.state = .confirmed) : isSuspect x = false := by
  simp [isSuspect, h]

theorem confirmedIn_evictLowest (rs : List FaultRecord) (e : Element) (c : FaultClass) :
    ConfirmedIn (evictLowest rs) e c ↔ ConfirmedIn rs e c := by
  refine confirmedIn_of_sublist (evictLowest_sublist rs).subset (fun x hx hs => ?_) e c
  unfold evictLowest
  split
  · exact hx
  · exact (List.mem_eraseP_of_neg (by simp [isSuspect_of_confirmed hs])).mpr hx

/-- The record that leaves at a decay is the one found, which is SUSPECT (R36). -/
theorem confirmedIn_erase_of_suspect {rs : List FaultRecord} {e : Element} {c : FaultClass} {x : FaultRecord}
    (hx : findRecord rs e c = some x) (hs : x.state = .suspect) (k : Element) (d : FaultClass) :
    ConfirmedIn (rs.eraseP (ofPair e c)) k d ↔ ConfirmedIn rs k d := by
  refine confirmedIn_of_sublist List.eraseP_subset (fun y hy hstate => ?_) k d
  obtain ⟨a, before, after, hbefore, ha, hrs, herase⟩ :=
    List.exists_of_eraseP (List.mem_of_find?_eq_some hx) (List.find?_some hx)
  have hax : a = x := by
    have hnone : before.find? (ofPair e c) = none := List.find?_eq_none.mpr hbefore
    rw [findRecord, hrs, List.find?_append, hnone, Option.none_or, List.find?_cons_of_pos ha] at hx
    exact Option.some.inj hx
  have hne : y ≠ a := by
    rintro rfl
    rw [hax, hs] at hstate
    cases hstate
  rw [hrs] at hy
  rw [herase]
  simp only [List.mem_append, List.mem_cons] at hy ⊢
  exact hy.imp_right fun h => h.resolve_left hne

/-- The confirmation of the record of a pair adds that pair to the CONFIRMED ones, and takes none away (R32). -/
theorem confirmedIn_confirmed {rs : List FaultRecord} {e : Element} {c : FaultClass}
    (hfound : findRecord rs e c ≠ none) (now : Uptime) (k : Element) (d : FaultClass) :
    ConfirmedIn (rs.map fun x => if ofPair e c x then confirmed now x else x) k d ↔
      ConfirmedIn rs k d ∨ (k = e ∧ d = c) := by
  constructor
  · rintro ⟨y, hy, he, hc, hstate⟩
    obtain ⟨x, hx, rfl⟩ := List.mem_map.mp hy
    cases hp : ofPair e c x with
    | true =>
      obtain ⟨hxe, hxc⟩ := ofPair_iff.mp hp
      rw [hp] at he hc
      exact .inr ⟨he.symm.trans hxe, hc.symm.trans hxc⟩
    | false =>
      rw [hp] at he hc hstate
      exact .inl ⟨x, hx, he, hc, hstate⟩
  · rintro (⟨x, hx, he, hc, hstate⟩ | ⟨rfl, rfl⟩)
    · refine ⟨_, List.mem_map.mpr ⟨x, hx, rfl⟩, ?_⟩
      cases ofPair e c x
      · exact ⟨he, hc, hstate⟩
      · exact ⟨he, hc, rfl⟩
    · obtain ⟨x, hx⟩ := Option.ne_none_iff_exists'.mp hfound
      have hp : ofPair k d x = true := List.find?_some hx
      obtain ⟨hxe, hxc⟩ := ofPair_iff.mp hp
      refine ⟨_, List.mem_map.mpr ⟨x, List.mem_of_find?_eq_some hx, rfl⟩, ?_⟩
      simp only [hp, if_true]
      exact ⟨hxe, hxc, rfl⟩

/-- A trial start takes away the CONFIRMED records of its element, and no other (R38). -/
theorem confirmedIn_removed (rs : List FaultRecord) (e k : Element) (c : FaultClass) :
    ConfirmedIn (rs.filter fun x => !(x.element == e && x.state == .confirmed)) k c ↔ ConfirmedIn rs k c ∧ k ≠ e := by
  simp only [ConfirmedIn, List.mem_filter]
  constructor
  · rintro ⟨x, ⟨hx, hkeep⟩, rfl, hc, hs⟩
    refine ⟨⟨x, hx, rfl, hc, hs⟩, fun he => ?_⟩
    simp [he, hs] at hkeep
  · rintro ⟨⟨x, hx, rfl, hc, hs⟩, hne⟩
    exact ⟨x, ⟨hx, by simp [hne]⟩, rfl, hc, hs⟩

theorem confirmedIn_scoredRecords (r : FaultReport) (s : State) (e : Element) (c : FaultClass) :
    ConfirmedIn (scoredRecords r s) e c ↔ ConfirmedIn s.table.records e c := by
  unfold scoredRecords
  split
  · refine confirmedIn_map (keepsPair_onPair (keepsPair_joinRecord _ _ _) _ _) (fun x => ?_) _ e c
    split <;> rfl
  · rw [confirmedIn_append_suspect (by rfl)]
    split
    · rfl
    · exact confirmedIn_evictLowest _ e c

/-! ### A well-formed table -/

theorem tableWellFormed_map {s t : State} (hs : TableWellFormed s) {f : FaultRecord → FaultRecord} (hf : KeepsPair f)
    (ht : t.table.records = s.table.records.map f) : TableWellFormed t := by
  obtain ⟨hlength, hpairs⟩ := hs
  rw [TableWellFormed, ht]
  refine ⟨by simpa using hlength, hpairs.map f fun x y hxy => ?_⟩
  rw [(hf x).1, (hf x).2, (hf y).1, (hf y).2]
  exact hxy

theorem tableWellFormed_sublist {s t : State} (hs : TableWellFormed s)
    (ht : t.table.records.Sublist s.table.records) : TableWellFormed t :=
  ⟨ht.length_le.trans hs.1, hs.2.sublist ht⟩

theorem tableWellFormed_scored {s : State} (hs : TableWellFormed s) {r : FaultReport} (hroom : RoomFor r s) :
    TableWellFormed (scored r s) := by
  cases hf : findRecord s.table.records r.element r.cls with
  | some x =>
    refine tableWellFormed_map hs (keepsPair_onPair (keepsPair_joinRecord (classParams s.osc.image r.cls) r
      s.time.uptime) r.element r.cls) ?_
    simp only [scored, scoredRecords, hf]
  | none =>
    have hall := List.find?_eq_none.mp hf
    have append : ∀ rs : List FaultRecord, rs.Sublist s.table.records → rs.length < 32 →
        ∀ x : FaultRecord, x.element = r.element → x.cls = r.cls →
        (rs ++ [x]).length ≤ 32 ∧ (rs ++ [x]).Pairwise fun x y => ¬(x.element = y.element ∧ x.cls = y.cls) := by
      intro rs hsub hlength x he hc
      refine ⟨by simpa using hlength, List.pairwise_append.mpr ⟨hs.2.sublist hsub, List.pairwise_singleton _ _, ?_⟩⟩
      intro y hy z hz
      obtain rfl := List.mem_singleton.mp hz
      rintro ⟨hye, hyc⟩
      exact hall y (hsub.subset hy) (ofPair_iff.mpr ⟨hye.trans he, hyc.trans hc⟩)
    simp only [TableWellFormed, scored, scoredRecords, hf]
    split
    · exact append _ (List.Sublist.refl _) ‹_› _ rfl rfl
    · rename_i hfull
      obtain ⟨x, hx, hsuspect⟩ := (hroom.resolve_left fun h => h hf).resolve_left hfull
      have hlength := (evictLowest_removes ⟨x, hx, by simp [isSuspect, hsuspect]⟩).1
      have hmax := hs.1
      exact append _ (evictLowest_sublist _) (by omega) _ rfl rfl

/-! ### What a report does -/

/-- What handing a report can do to the health, the budgets and the CONFIRMED records: nothing, a confirmation with its
claim, or the failure of a trial, recorded or not (R6 to R10). -/
inductive Reported (r : FaultReport) (s t : State) : Prop where
  | nothing (map : t.map = s.map) (records : ∀ k d, ConfirmedIn t.table.records k d ↔ ConfirmedIn s.table.records k d)
  | confirms (notTrial : s.map.health.get r.element ≠ .trial)
      (map : t.map = { s.map with health := s.map.health.set r.element (confirmedHealth (s.map.health.get r.element)
        (classParams s.osc.image r.cls).action (classParams s.osc.image r.cls).retained) })
      (records : ∀ k d, ConfirmedIn t.table.records k d ↔
        ConfirmedIn s.table.records k d ∨ (k = r.element ∧ d = r.cls))
  | fails (recorded : Bool) (trial : s.map.health.get r.element = .trial)
      (map : t.map = { health := s.map.health.set r.element (healthAfterFailure r.element r.cls recorded s)
                       budget := s.map.budget.set r.element (s.map.budget.get r.element - 1) })
      (records : ∀ k d, ConfirmedIn t.table.records k d ↔
        ConfirmedIn s.table.records k d ∨ (recorded = true ∧ k = r.element ∧ d = r.cls))

theorem overflowed_parts (s : State) : (overflowed s).map = s.map ∧ (overflowed s).osc = s.osc ∧
    (overflowed s).table.records = s.table.records := by
  unfold overflowed
  split
  · exact ⟨rfl, rfl, rfl⟩
  · simp

theorem leaveUnrecorded_eq (r : FaultReport) (s : State) :
    leaveUnrecorded r s = if s.map.health.get r.element = .trial then
      failTrial r.element r.cls false (overflowed s) else overflowed s := rfl

theorem confirmRecord_records (e : Element) (c : FaultClass) (s : State) :
    (confirmRecord e c s).table.records =
      s.table.records.map fun x => if ofPair e c x then confirmed s.time.uptime x else x := by
  by_cases ht : s.map.health.get e = .trial
  · simp [confirmRecord_of_trial ht]
  · simp [confirmRecord_eq_changeHealth ht]

theorem handReport_reported (r : FaultReport) (s : State) : Reported r s (handReport r s) := by
  have hscored := confirmedIn_scoredRecords r s
  rcases handReport_cases r s with h | ⟨-, -, h | ⟨-, h⟩⟩ | ⟨-, -, h⟩
  · rw [h]
    exact .nothing rfl fun _ _ => Iff.rfl
  · rw [h]
    exact .nothing rfl hscored
  · have hrecords : ∀ k d, ConfirmedIn (confirmRecord r.element r.cls (scored r s)).table.records k d ↔
        ConfirmedIn s.table.records k d ∨ (k = r.element ∧ d = r.cls) := by
      intro k d
      have hfound : findRecord (scored r s).table.records r.element r.cls ≠ none := by
        rw [show (scored r s).table.records = scoredRecords r s from rfl, findRecord_scoredRecords]
        exact Option.some_ne_none _
      rw [confirmRecord_records, confirmedIn_confirmed hfound]
      exact or_congr_left (hscored k d)
    rw [h]
    by_cases ht : s.map.health.get r.element = .trial
    · refine .fails true ht ?_ fun k d => (hrecords k d).trans (by simp)
      rw [confirmRecord_of_trial (s := scored r s) ht, failTrial_map]
      simp [healthAfterFailure, scored]
    · refine .confirms ht ?_ hrecords
      rw [confirmRecord_eq_changeHealth (s := scored r s) ht, changeHealth_map]
      simp [scored]
  · obtain ⟨hmap, hosc, hrecords⟩ := overflowed_parts s
    rw [h, leaveUnrecorded_eq]
    split
    case isTrue ht =>
      refine .fails false ht ?_ fun k d => ?_
      · rw [failTrial_map, healthAfterFailure, hmap, hosc]
        rfl
      · simp [hrecords]
    case isFalse => exact .nothing hmap fun k d => by rw [hrecords]

theorem handReport_tableWellFormed {s : State} (hs : TableWellFormed s) (r : FaultReport) :
    TableWellFormed (handReport r s) := by
  rcases handReport_cases r s with h | ⟨-, hroom, h | ⟨-, h⟩⟩ | ⟨-, -, h⟩
  · rwa [h]
  · rw [h]
    exact tableWellFormed_scored hs hroom
  · rw [h]
    exact tableWellFormed_map (tableWellFormed_scored hs hroom) (keepsPair_onPair (keepsPair_confirmed _) _ _)
      (confirmRecord_records _ _ _)
  · obtain ⟨-, -, hrecords⟩ := overflowed_parts s
    have hsame : (leaveUnrecorded r s).table.records = s.table.records := by
      rw [leaveUnrecorded_eq]
      split <;> simp [hrecords]
    rw [h]
    exact tableWellFormed_sublist hs (by rw [hsame])

/-! ### What the other actions do -/

theorem startTrial_records (slot : TrialSlot) (e : Element) (s : State) :
    (startTrial slot e s).table.records =
      s.table.records.filter fun x => !(x.element == e && x.state == .confirmed) := by
  show (trialStartClaim e (trialPlaced slot e s)).table.records = _
  simp

/-- The health after a trial start: TRIAL for an element that was ISOLATED or DEGRADED, and no other change (R11). -/
theorem startTrial_health (slot : TrialSlot) (e : Element) (s : State) :
    (startTrial slot e s).map.health =
      if s.map.health.get e = .isolated ∨ s.map.health.get e = .degraded then s.map.health.set e .trial
      else s.map.health := by
  split
  case isTrue h => simp [startTrial_eq h]
  case isFalse h =>
    have hidle : trialStartClaim e (trialPlaced slot e s) = trialPlaced slot e s := by
      unfold trialStartClaim
      rw [trialPlaced_map]
      cases hh : s.map.health.get e <;> simp [hh] at h ⊢
    show (trialStartClaim e (trialPlaced slot e s)).map.health = _
    rw [hidle, trialPlaced_map]

theorem passTrial_health (slot : TrialSlot) (x : Trial) (s : State) :
    (passTrial slot x s).map.health =
      if s.map.health.get x.element = .trial then s.map.health.set x.element .inService else s.map.health := by
  split
  case isTrue h => simp [passTrial_eq h]
  case isFalse h =>
    have hidle : trialPassedClaim x.element (trialEnded slot x.element .passed s) =
        trialEnded slot x.element .passed s := by
      unfold trialPassedClaim
      rw [if_neg (by rwa [trialEnded_map])]
    show (evaluatePrimary (trialPassedClaim x.element (trialEnded slot x.element .passed s))).map.health = _
    rw [hidle, evaluatePrimary_map, trialEnded_map]

theorem keepsPair_decayRecord (k : ClassParams) : KeepsPair (decayRecord k) := fun _ => ⟨rfl, rfl⟩

theorem takeDecay_confirmedIn {e : Element} {c : FaultClass} {x : FaultRecord} {s : State}
    (hx : findRecord s.table.records e c = some x) (hs : x.state = .suspect) (k : Element) (d : FaultClass) :
    ConfirmedIn (takeDecay e c x s).table.records k d ↔ ConfirmedIn s.table.records k d := by
  unfold takeDecay
  dsimp only
  split
  · exact confirmedIn_erase_of_suspect hx hs k d
  · refine confirmedIn_map (f := fun y => if ofPair e c y then decayRecord (classParams s.osc.image c) y else y)
      (keepsPair_onPair (keepsPair_decayRecord _) e c) (fun y => ?_) _ k d
    split <;> rfl

theorem takeDecay_parts (e : Element) (c : FaultClass) (x : FaultRecord) (s : State) :
    (takeDecay e c x s).map = s.map ∧ (takeDecay e c x s).osc = s.osc := by
  unfold takeDecay
  dsimp only
  split <;> exact ⟨rfl, rfl⟩

theorem takeDecay_tableWellFormed {s : State} (hs : TableWellFormed s) (e : Element) (c : FaultClass) (x : FaultRecord) :
    TableWellFormed (takeDecay e c x s) := by
  unfold takeDecay
  dsimp only
  split
  · exact tableWellFormed_sublist hs List.eraseP_sublist
  · exact tableWellFormed_map hs (f := fun y => if ofPair e c y then decayRecord (classParams s.osc.image c) y else y)
      (keepsPair_onPair (keepsPair_decayRecord _) e c) rfl

theorem tickTimers_confirmedIn (s : State) (k : Element) (d : FaultClass) :
    ConfirmedIn (tickTimers s).table.records k d ↔ ConfirmedIn s.table.records k d :=
  confirmedIn_map (f := fun x => { x with decay := tickTimer x.decay }) (fun _ => ⟨rfl, rfl⟩) (fun _ => rfl) _ k d

/-- A START changes nothing of the table; of the health it changes what RUN entry changes (R152, R168, R169). -/
theorem acceptStart_cases (p : Port) (s : State) :
    (acceptStart p s).table = s.table ∧ (acceptStart p s).map.budget = s.map.budget ∧
    (acceptStart p s).osc.image = s.osc.image ∧
    ((acceptStart p s).map.health = s.map.health ∨
      ∀ k, (acceptStart p s).map.health.get k =
        if (s.retained.entries.get k).locked = true ∧ s.map.health.get k ≠ .trial then .lockedOut
        else s.map.health.get k) ∧
    ((acceptStart p s).osc.part = s.osc.part ∨ (acceptStart p s).osc.part ≠ .config) := by
  unfold acceptStart
  dsimp only
  split
  · exact ⟨by simp, by simp, by simp, .inl (by simp), .inr (by simp)⟩
  · split
    · exact ⟨rfl, rfl, rfl, .inl rfl, .inl rfl⟩
    · split
      · refine ⟨by simp, by simp, by simp, .inr fun k => ?_, .inr (by simp [runEntry_frame (fun u => u.osc.part) (by simp), runEntered])⟩
        rw [runEntry_health]
        simp
      · exact ⟨by simp, by simp, by simp, .inl (by simp), .inl (by simp)⟩

theorem runEntry_part (s : State) : (runEntry s).osc.part = .run := by
  rw [runEntry_frame (fun u => u.osc.part) (by simp)]
  simp [runEntered]

theorem acceptWrite_parts (k : Sect) (n : Nat) (entry : List Byte) (s : State) :
    (acceptWrite k n entry s).table = s.table ∧ (acceptWrite k n entry s).map.health = s.map.health ∧
    (acceptWrite k n entry s).osc.part = s.osc.part := by
  unfold acceptWrite afterWrite
  split
  · split <;> exact ⟨rfl, rfl, rfl⟩
  · simp
  · simp
  all_goals exact ⟨rfl, rfl, rfl⟩

theorem unlockEntries_parts (es : List Element) (s : State) :
    (es.foldl (fun s e => unlockEntry e s) s).table = s.table ∧
    (es.foldl (fun s e => unlockEntry e s) s).map = s.map ∧
    (es.foldl (fun s e => unlockEntry e s) s).osc = s.osc :=
  ⟨foldl_frame (fun s e => unlockEntry e s) State.table (fun _ _ => rfl) es s,
    foldl_frame (fun s e => unlockEntry e s) State.map (fun _ _ => rfl) es s,
    foldl_frame (fun s e => unlockEntry e s) State.osc (fun _ _ => rfl) es s⟩

end Sys2Proof.Machine
end

section
/-! The health stays in step with the CONFIRMED records (O50). -/

namespace Sys2Proof.Machine

/-! ### One element's health against its CONFIRMED records -/

/-- A health that fits the CONFIRMED records of its element (R17). -/
def HealthFits (image : List Byte) (rs : List FaultRecord) (e : Element) (h : Health) : Prop :=
  (h = .isolated → ∃ c, ConfirmedIn rs e c ∧ (classParams image c).action = .isolate) ∧
  (h = .degraded → (∃ c, ConfirmedIn rs e c ∧ (classParams image c).action = .derate) ∧
    ∀ c, ConfirmedIn rs e c → (classParams image c).action = .derate) ∧
  (h = .inService ∨ h = .trial → ∀ c, ¬ConfirmedIn rs e c)

theorem hasConfirmed_iff (s : State) (e : Element) (a : FaultAction) :
    HasConfirmed s e a ↔ ∃ c, ConfirmedIn s.table.records e c ∧ (classParams s.osc.image c).action = a := by
  constructor
  · rintro ⟨x, hx, he, hs, ha⟩
    exact ⟨x.cls, ⟨x, hx, he, rfl, hs⟩, ha⟩
  · rintro ⟨c, ⟨x, hx, he, rfl, hs⟩, ha⟩
    exact ⟨x, hx, he, hs, ha⟩

theorem not_isolate_iff (a : FaultAction) : a ≠ .isolate ↔ a = .derate := by cases a <;> simp

theorem all_suspect_iff (rs : List FaultRecord) (e : Element) :
    (∀ x ∈ rs, x.element = e → x.state = .suspect) ↔ ∀ c, ¬ConfirmedIn rs e c := by
  constructor
  · rintro h c ⟨x, hx, he, -, hs⟩
    rw [h x hx he] at hs
    cases hs
  · intro h x hx he
    cases hs : x.state with
    | suspect => rfl
    | confirmed => exact absurd ⟨x, hx, he, rfl, hs⟩ (h x.cls)

/-- The health of every element matches the table where it fits that element's records. -/
theorem healthMatchesTable_iff (s : State) :
    HealthMatchesTable s ↔ ∀ e, HealthFits s.osc.image s.table.records e (s.map.health.get e) := by
  refine forall_congr' fun e => ?_
  rw [HealthFits, all_suspect_iff, hasConfirmed_iff, hasConfirmed_iff]
  have hnone : (¬∃ c, ConfirmedIn s.table.records e c ∧ (classParams s.osc.image c).action = .isolate) ↔
      ∀ c, ConfirmedIn s.table.records e c → (classParams s.osc.image c).action = .derate := by
    simp only [not_exists, not_and]
    exact forall₂_congr fun c _ => not_isolate_iff _
  rw [hnone]

section
variable {image : List Byte} {rs us : List FaultRecord} {e : Element} {c : FaultClass} {h : Health}

/-- The fit speaks of the CONFIRMED records of the element alone. -/
theorem HealthFits.congr (hf : HealthFits image rs e h) (hu : ∀ d, ConfirmedIn us e d ↔ ConfirmedIn rs e d) :
    HealthFits image us e h := by
  simpa only [HealthFits, hu] using hf

/-- LOCKED_OUT fits any records (R17 says nothing of it). -/
theorem healthFits_lockedOut : HealthFits image rs e .lockedOut := by simp [HealthFits]

/-- With no CONFIRMED record, IN_SERVICE and TRIAL fit. -/
theorem healthFits_of_none (hh : h = .inService ∨ h = .trial) (hn : ∀ d, ¬ConfirmedIn rs e d) :
    HealthFits image rs e h := by
  rcases hh with rfl | rfl <;> simp [HealthFits, hn]

/-- A health set by the action of the one class that is CONFIRMED beside records of the same or a lesser action. -/
theorem healthFits_of_action (hu : ConfirmedIn us e c)
    (hderate : (classParams image c).action = .derate →
      ∀ d, ConfirmedIn us e d → (classParams image d).action = .derate) :
    HealthFits image us e (match (classParams image c).action with
      | .isolate => .isolated
      | .derate => .degraded) := by
  cases ha : (classParams image c).action with
  | isolate => exact ⟨fun _ => ⟨c, hu, ha⟩, nofun, by simp⟩
  | derate => exact ⟨nofun, fun _ => ⟨⟨c, hu, ha⟩, hderate ha⟩, by simp⟩

/-- The health after a confirmation fits the records with the one that was confirmed (R6 to R8). -/
theorem HealthFits.confirmed (hf : HealthFits image rs e h) (ht : h ≠ .trial)
    (hu : ∀ d, ConfirmedIn us e d ↔ ConfirmedIn rs e d ∨ d = c) :
    HealthFits image us e (confirmedHealth h (classParams image c).action (classParams image c).retained) := by
  have hc : ConfirmedIn us e c := (hu c).mpr (.inr rfl)
  have byAction : (∀ d, ConfirmedIn rs e d → (classParams image d).action = .derate) →
      HealthFits image us e (match (classParams image c).action with
        | .isolate => .isolated
        | .derate => .degraded) := by
    intro hall
    refine healthFits_of_action hc fun ha d hd => ?_
    rcases (hu d).mp hd with hd | rfl
    · exact hall d hd
    · exact ha
  cases hr : (classParams image c).retained with
  | true =>
    cases h with
    | trial => exact absurd rfl ht
    | _ => exact healthFits_lockedOut
  | false =>
    cases h with
    | inService =>
      have hfit := byAction fun d hd => absurd hd (hf.2.2 (.inl rfl) d)
      cases ha : (classParams image c).action <;> (rw [ha] at hfit; exact hfit)
    | degraded =>
      have hfit := byAction (hf.2.1 rfl).2
      cases ha : (classParams image c).action <;> (rw [ha] at hfit; exact hfit)
    | isolated =>
      obtain ⟨d, hd, hda⟩ := hf.1 rfl
      have hfit : HealthFits image us e .isolated :=
        ⟨fun _ => ⟨d, (hu d).mpr (.inl hd), hda⟩, nofun, by simp⟩
      cases (classParams image c).action <;> exact hfit
    | trial => exact absurd rfl ht
    | lockedOut => exact healthFits_lockedOut

/-- The health after a failed trial fits the records, with the one confirmed where it was recorded (Table 1.5). -/
theorem HealthFits.failed (hf : HealthFits image rs e .trial) {recorded : Bool}
    (hu : ∀ d, ConfirmedIn us e d ↔ ConfirmedIn rs e d ∨ (recorded = true ∧ d = c)) (budget : Nat) :
    HealthFits image us e
      (failedHealth budget (classParams image c).action (classParams image c).retained recorded) := by
  unfold failedHealth
  split
  · exact healthFits_lockedOut
  · split
    · exact healthFits_lockedOut
    · rename_i hrec
      have hrec : recorded = true := by simpa using hrec
      split
      · exact healthFits_lockedOut
      · have hfit : HealthFits image us e (match (classParams image c).action with
            | .isolate => .isolated
            | .derate => .degraded) := by
          refine healthFits_of_action ((hu c).mpr (.inr ⟨hrec, rfl⟩)) fun ha d hd => ?_
          rcases (hu d).mp hd with hd | ⟨-, rfl⟩
          · exact absurd hd (hf.2.2 (.inr rfl) d)
          · exact ha
        cases ha : (classParams image c).action <;> (rw [ha] at hfit; exact hfit)

end

/-! ### The invariant -/

/-- The table is well formed, CONFIG is clean, and the health is in step with the table (R17, R19, R20). -/
def HealthInStep (s : State) : Prop := TableWellFormed s ∧ ConfigIsClean s ∧ HealthMatchesTable s

/-- The invariant speaks of the health, the CONFIRMED records, the classes' actions and the part state. -/
theorem HealthInStep.of_parts {s t : State} (hs : HealthInStep s) (wellFormed : TableWellFormed t)
    (health : t.map.health = s.map.health)
    (records : ∀ k d, ConfirmedIn t.table.records k d ↔ ConfirmedIn s.table.records k d)
    (image : t.osc.image = s.osc.image) (clean : t.osc.part = .config → s.osc.part = .config)
    (empty : s.table.records = [] → t.osc.part = .config → t.table.records = []) : HealthInStep t := by
  obtain ⟨-, hclean, hmatches⟩ := hs
  rw [healthMatchesTable_iff] at hmatches
  refine ⟨wellFormed, fun hp => ?_, (healthMatchesTable_iff t).mpr fun e => ?_⟩
  · obtain ⟨hempty, hin⟩ := hclean (clean hp)
    exact ⟨empty hempty hp, fun e => by rw [health]; exact hin e⟩
  · rw [image, health]
    exact (hmatches e).congr (records e)

/-- Outside CONFIG a change of one element's health and records is a matter of that element alone. -/
theorem HealthInStep.of_change {s t : State} (hs : HealthInStep s) {e : Element} {h : Health}
    (wellFormed : TableWellFormed t) (notConfig : t.osc.part ≠ .config) (image : t.osc.image = s.osc.image)
    (health : t.map.health = s.map.health.set e h)
    (others : ∀ k d, k ≠ e → (ConfirmedIn t.table.records k d ↔ ConfirmedIn s.table.records k d))
    (fits : HealthFits s.osc.image t.table.records e h) : HealthInStep t := by
  obtain ⟨-, -, hmatches⟩ := hs
  rw [healthMatchesTable_iff] at hmatches
  refine ⟨wellFormed, fun hp => absurd hp notConfig, (healthMatchesTable_iff t).mpr fun k => ?_⟩
  rw [image, health, PerElement.get_set]
  split
  case isTrue hk => exact hk ▸ fits
  case isFalse hk => exact (hmatches k).congr fun d => others k d hk

theorem HealthInStep.fits {s : State} (hs : HealthInStep s) (e : Element) :
    HealthFits s.osc.image s.table.records e (s.map.health.get e) := (healthMatchesTable_iff s).mp hs.2.2 e

theorem HealthInStep.quiet {s t : State} (hs : HealthInStep s) (hq : Quiet s t) : HealthInStep t := by
  refine hs.of_parts ?_ (by rw [hq.map]) (fun k d => by rw [hq.table]) hq.image (fun hp => by rwa [← hq.part])
    (fun he _ => by rwa [hq.table])
  rw [TableWellFormed, hq.table]
  exact hs.1

theorem HealthInStep.handReport {s : State} (hs : HealthInStep s) (r : FaultReport) : HealthInStep (handReport r s) := by
  by_cases hr : Running s
  · have hpart : s.osc.part ≠ .config := by rcases hr with h | h <;> simp [h]
    have hwell := handReport_tableWellFormed hs.1 r
    have hosc : (Machine.handReport r s).osc = s.osc := handReport_osc r s
    have hfits := hs.fits r.element
    cases handReport_reported r s with
    | nothing map records =>
      exact hs.of_parts hwell (by rw [map]) records (by rw [hosc]) (fun hp => by rwa [hosc] at hp)
        (fun _ hp => absurd (by rwa [hosc] at hp) hpart)
    | confirms notTrial map records =>
      exact hs.of_change hwell (by rwa [hosc]) (by rw [hosc]) (by rw [map])
        (fun k d hk => (records k d).trans (by simp [hk]))
        (hfits.confirmed notTrial fun d => (records r.element d).trans (by simp))
    | fails recorded trial map records =>
      rw [trial] at hfits
      have hfit : HealthFits s.osc.image (Machine.handReport r s).table.records r.element
          (healthAfterFailure r.element r.cls recorded s) :=
        hfits.failed (recorded := recorded) (c := r.cls) (fun d => (records r.element d).trans (by simp)) _
      exact hs.of_change hwell (by rwa [hosc]) (by rw [hosc]) (by rw [map])
        (fun k d hk => (records k d).trans (by simp [hk])) hfit
  · rwa [handReport_of_not_running hr]

/-- RUN entry locks elements out, which fits any records, and changes no other health (R152). -/
theorem HealthInStep.of_lockouts {s t : State} (hs : HealthInStep s) (table : t.table = s.table)
    (image : t.osc.image = s.osc.image) (notConfig : t.osc.part ≠ .config)
    (health : ∀ k, t.map.health.get k =
      if (s.retained.entries.get k).locked = true ∧ s.map.health.get k ≠ .trial then .lockedOut
      else s.map.health.get k) : HealthInStep t := by
  refine ⟨by rw [TableWellFormed, table]; exact hs.1, fun hp => absurd hp notConfig,
    (healthMatchesTable_iff t).mpr fun k => ?_⟩
  rw [health k, table, image]
  split
  · exact healthFits_lockedOut
  · exact hs.fits k

theorem HealthInStep.runEntry {s : State} (hs : HealthInStep s) : HealthInStep (runEntry s) :=
  hs.of_lockouts (runEntry_table s) (runEntry_osc_image s) (by rw [runEntry_part]; decide) fun k => runEntry_health k s

theorem HealthInStep.acceptStart {s : State} (hs : HealthInStep s) (p : Port) : HealthInStep (acceptStart p s) := by
  obtain ⟨htable, -, himage, hhealth, hpart⟩ := acceptStart_cases p s
  have hwell : TableWellFormed (Machine.acceptStart p s) := by rw [TableWellFormed, htable]; exact hs.1
  rcases hhealth with hsame | hlocked
  · refine hs.of_parts hwell hsame (fun _ _ => by rw [htable]) himage (fun hp => ?_) (fun he _ => by rwa [htable])
    rcases hpart with h | h
    · rwa [← h]
    · exact absurd hp h
  · by_cases hp : (Machine.acceptStart p s).osc.part = .config
    · have hsp : s.osc.part = .config := by
        rcases hpart with h | h
        · rwa [← h]
        · exact absurd hp h
      have hstay : (Machine.acceptStart p s).map.health = s.map.health := by
        rw [Machine.acceptStart, if_pos hsp]
        simp
      exact hs.of_parts hwell hstay (fun _ _ => by rw [htable]) himage (fun _ => hsp) (fun he _ => by rwa [htable])
    · exact hs.of_lockouts htable himage hp hlocked

/-- A trial start on an element takes its CONFIRMED records away and sets TRIAL; in CONFIG there is none to take away. -/
theorem HealthInStep.startTrial {s : State} (hs : HealthInStep s) (slot : TrialSlot) (e : Element) :
    HealthInStep (startTrial slot e s) := by
  have hrecords := startTrial_records slot e s
  have hwell : TableWellFormed (Machine.startTrial slot e s) :=
    tableWellFormed_sublist hs.1 (by rw [hrecords]; exact List.filter_sublist)
  have hhealth := startTrial_health slot e s
  have hconfirmed : ∀ k d, ConfirmedIn (Machine.startTrial slot e s).table.records k d ↔
      ConfirmedIn s.table.records k d ∧ k ≠ e := fun k d => by rw [hrecords, confirmedIn_removed]
  split at hhealth
  case isTrue h =>
    have hpart : s.osc.part ≠ .config := by
      intro hp
      rw [(hs.2.1 hp).2 e] at h
      rcases h with h | h <;> cases h
    refine hs.of_change hwell (by simpa using hpart) (by simp) hhealth (fun k d hk => by simp [hconfirmed, hk]) ?_
    exact healthFits_of_none (.inr rfl) fun d hd => ((hconfirmed e d).mp hd).2 rfl
  case isFalse h =>
    refine ⟨hwell, fun hp => ?_, (healthMatchesTable_iff _).mpr fun k => ?_⟩
    · obtain ⟨hempty, hin⟩ := hs.2.1 (by simpa using hp)
      exact ⟨by rw [hrecords, hempty]; rfl, fun k => by rw [hhealth]; exact hin k⟩
    · rw [hhealth, startTrial_osc]
      by_cases hk : k = e
      · subst hk
        have hfits := hs.fits k
        cases hh : s.map.health.get k with
        | inService => exact healthFits_of_none (.inl rfl) fun d hd => ((hconfirmed k d).mp hd).2 rfl
        | trial => exact healthFits_of_none (.inr rfl) fun d hd => ((hconfirmed k d).mp hd).2 rfl
        | isolated => simp [hh] at h
        | degraded => simp [hh] at h
        | lockedOut => exact healthFits_lockedOut
      · exact (hs.fits k).congr fun d => by simp [hconfirmed, hk]

theorem HealthInStep.passTrial {s : State} (hs : HealthInStep s) (hr : s.osc.part = .run) (slot : TrialSlot) (x : Trial) :
    HealthInStep (passTrial slot x s) := by
  have hhealth := passTrial_health slot x s
  have htable : (Machine.passTrial slot x s).table = s.table := passTrial_table slot x s
  have hwell : TableWellFormed (Machine.passTrial slot x s) := by rw [TableWellFormed, htable]; exact hs.1
  split at hhealth
  case isTrue h =>
    refine hs.of_change hwell (by simp [hr]) (by simp) hhealth (fun _ _ _ => by rw [htable]) ?_
    have hfits := hs.fits x.element
    rw [h] at hfits
    rw [htable]
    exact healthFits_of_none (.inl rfl) (hfits.2.2 (.inr rfl))
  case isFalse h =>
    exact hs.of_parts hwell hhealth (fun _ _ => by rw [htable]) (by simp) (fun hp => by simpa using hp)
      (fun he _ => by rwa [htable])

/-- A clean CONFIG stays in step whatever the image says of the classes (R19, R165). -/
theorem HealthInStep.acceptWrite {s : State} (hs : HealthInStep s) (hp : s.osc.part = .config) (k : Sect) (n : Nat)
    (entry : List Byte) : HealthInStep (acceptWrite k n entry s) := by
  obtain ⟨htable, hhealth, -⟩ := acceptWrite_parts k n entry s
  obtain ⟨hempty, hin⟩ := hs.2.1 hp
  refine ⟨by rw [TableWellFormed, htable]; exact hs.1,
    fun _ => ⟨by rw [htable, hempty], fun e => by rw [hhealth]; exact hin e⟩, (healthMatchesTable_iff _).mpr fun e => ?_⟩
  rw [htable, hhealth, hempty, hin e]
  exact healthFits_of_none (.inl rfl) fun d => confirmedIn_nil e d

/-- A reset leaves an empty table and every element IN_SERVICE (R19, R42). -/
theorem healthInStep_resetBlocks (image : List Byte) (p : Port) (m : RetainedMap) (s : State) :
    HealthInStep (resetBlocks image p m s) := by
  have hin : ∀ e, (resetBlocks image p m s).map.health.get e = .inService := reset_health
  refine ⟨⟨Nat.zero_le _, List.Pairwise.nil⟩, fun _ => ⟨rfl, hin⟩, (healthMatchesTable_iff _).mpr fun e => ?_⟩
  rw [hin e]
  exact healthFits_of_none (.inl rfl) fun d => confirmedIn_nil e d

theorem Act.keeps_healthInStep {i : Instr} {s t : State} (h : Act i s t) (hi : isCorruption i = false)
    (hs : HealthInStep s) : HealthInStep t := by
  cases h with
  | stay => exact hs
  | report r => exact hs.handReport r
  | floor p f hp => exact hs.of_parts hs.1 rfl (fun _ _ => Iff.rfl) rfl id fun he _ => he
  | opens b named asks answered proper => exact hs.of_parts hs.1 rfl (fun _ _ => Iff.rfl) rfl id fun he _ => he
  | answers p b isOpen asked proper => exact hs.of_parts hs.1 rfl (fun _ _ => Iff.rfl) rfl id fun he _ => he
  | trial slot e u closed isClosed admitted named => exact (hs.quiet closed).startTrial slot e
  | pass slot x isRun held => exact hs.passTrial isRun slot x
  | start p before => exact hs.acceptStart p
  | window before =>
    exact HealthInStep.runEntry
      (foldl_keeps (f := fun s p => Machine.handReport (startVoteReport p) s) (fun _ _ hu => hu.handReport _) _ hs)
  | write k n entry isConfig => exact hs.acceptWrite isConfig k n entry
  | unlock es =>
    obtain ⟨htable, hmap, hosc⟩ := unlockEntries_parts es s
    exact hs.of_parts (by rw [TableWellFormed, htable]; exact hs.1) (by rw [hmap]) (fun _ _ => by rw [htable])
      (by rw [hosc]) (fun hp => by rwa [hosc] at hp) fun he _ => by rwa [htable]
  | decay e c x found running suspect =>
    obtain ⟨hmap, hosc⟩ := takeDecay_parts e c x s
    refine hs.of_parts (takeDecay_tableWellFormed hs.1 e c x) (by rw [hmap]) (takeDecay_confirmedIn found suspect)
      (by rw [hosc]) (fun hp => by rwa [hosc] at hp) fun _ hp => ?_
    rw [hosc] at hp
    rcases running with h | h <;> simp [h] at hp
  | failsafe cause =>
    refine hs.of_parts (by rw [TableWellFormed, requestFailsafe_table]; exact hs.1) (by simp) (fun _ _ => by simp)
      (by simp) (fun hp => ?_) fun he _ => by simpa using he
    rw [requestFailsafe_part] at hp
    cases hp
  | tick =>
    exact hs.of_parts (tableWellFormed_map hs.1 (f := fun x => { x with decay := tickTimer x.decay })
      (fun _ => ⟨rfl, rfl⟩) rfl) rfl (tickTimers_confirmedIn s) rfl id fun he _ => by simp [tickTimers, he]
  | corrupt k b h => subst h; cases hi
  | powerOn a b h => exact healthInStep_resetBlocks _ _ _ s
  | keyCycle h => exact healthInStep_resetBlocks _ _ _ s

/-- Settles O50: a step's one action keeps the invariant, and so do the quiet changes around it. -/
theorem stepKeepsHealthInStepWithTheTable : Obligations.StepKeepsHealthInStepWithTheTable := by
  unfold Obligations.StepKeepsHealthInStepWithTheTable
  intro s t hs hfront hstep
  rcases step_effect hstep with rfl | ⟨i, rest, hqueue, a, b, ha, hact, hb⟩
  · exact hs
  · have hi : isCorruption i = false := by
      cases i with
      | configurationImageCorruption k b => exact absurd (by rw [hqueue]; rfl) (hfront k b)
      | _ => rfl
    exact (hact.keeps_healthInStep hi (HealthInStep.quiet hs ha)).quiet hb

end Sys2Proof.Machine
end

section
/-! Nothing is forgotten before a reset (O58): budgets, lockouts and CONFIRMED records. -/

namespace Sys2Proof.Machine

/-- No budget has risen, no lockout and no CONFIRMED record has gone. -/
structure Remembers (s t : State) : Prop where
  budget : ∀ e, t.map.budget.get e ≤ s.map.budget.get e
  locked : ∀ e, s.map.health.get e = .lockedOut → t.map.health.get e = .lockedOut
  confirmed : ∀ e c, ConfirmedIn s.table.records e c → ConfirmedIn t.table.records e c

theorem Remembers.trans {s t u : State} (h : Remembers s t) (k : Remembers t u) : Remembers s u where
  budget e := (k.budget e).trans (h.budget e)
  locked e he := k.locked e (h.locked e he)
  confirmed e c hc := k.confirmed e c (h.confirmed e c hc)

theorem Remembers.of_map {s t : State} (map : t.map = s.map)
    (confirmed : ∀ e c, ConfirmedIn s.table.records e c → ConfirmedIn t.table.records e c) : Remembers s t where
  budget e := by rw [map]
  locked e he := by rwa [map]
  confirmed := confirmed

theorem Remembers.of_eq {s t : State} (map : t.map = s.map) (table : t.table = s.table) : Remembers s t :=
  .of_map map fun e c hc => by rwa [table]

/-- A report lowers at most the budget of its element, and takes no lockout and no CONFIRMED record away. -/
theorem handReport_remembers (r : FaultReport) (s : State) : Remembers s (handReport r s) := by
  have only : ∀ (h : Health), (s.map.health.get r.element = .lockedOut → h = .lockedOut) →
      ∀ e, s.map.health.get e = .lockedOut → (s.map.health.set r.element h).get e = .lockedOut := by
    intro h hh e he
    rw [PerElement.get_set]
    split
    case isTrue hk => exact hh (hk ▸ he)
    case isFalse => exact he
  cases handReport_reported r s with
  | nothing map records => exact .of_map map fun e c => (records e c).mpr
  | confirms notTrial map records =>
    refine ⟨fun e => by rw [map], fun e he => ?_, fun e c hc => (records e c).mpr (.inl hc)⟩
    rw [map]
    exact only _ (fun hl => by rw [hl]; rfl) e he
  | fails recorded trial map records =>
    refine ⟨fun e => ?_, fun e he => ?_, fun e c hc => (records e c).mpr (.inl hc)⟩
    · rw [map]
      show (s.map.budget.set r.element _).get e ≤ _
      rw [PerElement.get_set]
      split
      case isTrue hk => exact hk ▸ Nat.sub_le _ _
      case isFalse => exact le_rfl
    · rw [map]
      exact only _ (fun hl => by rw [trial] at hl; cases hl) e he

/-- RUN entry takes lockouts, and none away. -/
theorem remembers_of_lockouts {s t : State} (table : t.table = s.table) (budget : t.map.budget = s.map.budget)
    (health : ∀ k, t.map.health.get k =
      if (s.retained.entries.get k).locked = true ∧ s.map.health.get k ≠ .trial then .lockedOut
      else s.map.health.get k) : Remembers s t where
  budget e := by rw [budget]
  locked e he := by
    rw [health e]
    split
    · rfl
    · exact he
  confirmed e c hc := by rwa [table]

theorem runEntry_remembers (s : State) : Remembers s (runEntry s) :=
  remembers_of_lockouts (runEntry_table s) (runEntry_map_budget s) fun k => runEntry_health k s

theorem foldl_remembers {α : Type} {f : State → α → State} (hf : ∀ a s, Remembers s (f s a)) (as : List α) (s : State) :
    Remembers s (as.foldl f s) :=
  foldl_keeps (P := Remembers s) (fun a u hu => hu.trans (hf a u)) as (.of_eq rfl rfl)

theorem acceptStart_remembers (p : Port) (s : State) : Remembers s (acceptStart p s) := by
  obtain ⟨htable, hbudget, -, hhealth, -⟩ := acceptStart_cases p s
  rcases hhealth with hsame | hlocked
  · exact ⟨fun e => by rw [hbudget], fun e he => by rwa [hsame], fun e c hc => by rwa [htable]⟩
  · exact remembers_of_lockouts htable hbudget hlocked

/-- A claim on an element that is not LOCKED_OUT leaves every lockout. -/
theorem lockedOut_set_of_ne {v : PerElement Health} {e k : Element} {h : Health} (he : v.get e ≠ .lockedOut)
    (hk : v.get k = .lockedOut) : (v.set e h).get k = .lockedOut := by
  rw [PerElement.get_set, if_neg]
  · exact hk
  · rintro rfl
    exact he hk

theorem passTrial_remembers (slot : TrialSlot) (x : Trial) (s : State) : Remembers s (passTrial slot x s) := by
  refine ⟨fun e => by simp, fun e he => ?_, fun e c hc => by simpa using hc⟩
  rw [passTrial_health]
  split
  case isTrue h => exact lockedOut_set_of_ne (by rw [h]; decide) he
  case isFalse => exact he

/-- What a command but a reset keeps: a WRITE_CONFIG, in CONFIG, may raise a budget, and a trial start takes away the
CONFIRMED records of the element that it puts in TRIAL. -/
structure RemembersButTrials (s t : State) : Prop where
  budget : s.osc.part ≠ .config → ∀ e, t.map.budget.get e ≤ s.map.budget.get e
  locked : ∀ e, s.map.health.get e = .lockedOut → t.map.health.get e = .lockedOut
  confirmed : (∀ b, s.recovery.ballot = some b →
      s.map.health.get b.element = .isolated ∨ s.map.health.get b.element = .degraded) →
    ∀ e c, ConfirmedIn s.table.records e c → t.map.health.get e = .trial ∨ ConfirmedIn t.table.records e c

theorem Remembers.butTrials {s t : State} (h : Remembers s t) : RemembersButTrials s t where
  budget _ := h.budget
  locked := h.locked
  confirmed _ e c hc := .inr (h.confirmed e c hc)

theorem Act.remembersButTrials {i : Instr} {s t : State} (h : Act i s t) (hi : isReset i = false) : RemembersButTrials s t := by
  cases h with
  | stay => exact Remembers.butTrials (.of_eq rfl rfl)
  | report r => exact (handReport_remembers r s).butTrials
  | floor p f hp => exact Remembers.butTrials (.of_eq rfl rfl)
  | opens b named asks answered proper => exact Remembers.butTrials (.of_eq rfl rfl)
  | answers p b isOpen asked proper => exact Remembers.butTrials (.of_eq rfl rfl)
  | trial slot e u closed isClosed admitted named =>
    refine ⟨fun _ k => by simp [closed.map], fun k hk => ?_, fun hballot k c hc => ?_⟩
    · rw [startTrial_health, closed.map]
      split
      case isTrue h => exact lockedOut_set_of_ne (by rcases h with h | h <;> rw [h] <;> decide) hk
      case isFalse => exact hk
    · by_cases hk : k = e
      · have hout : s.map.health.get e = .isolated ∨ s.map.health.get e = .degraded := by
          rcases named with h | ⟨b, hb, rfl⟩
          · exact h
          · exact hballot b hb
        left
        rw [startTrial_health, closed.map, if_pos hout, hk, PerElement.get_set_self]
      · right
        rw [startTrial_records, confirmedIn_removed, closed.table]
        exact ⟨hc, hk⟩
  | pass slot x isRun held => exact (passTrial_remembers slot x s).butTrials
  | start p before => exact (acceptStart_remembers p s).butTrials
  | window before =>
    exact ((foldl_remembers (f := fun s p => handReport (startVoteReport p) s)
      (fun p u => handReport_remembers _ u) _ s).trans (runEntry_remembers _)).butTrials
  | write k n entry isConfig =>
    obtain ⟨htable, hhealth, -⟩ := acceptWrite_parts k n entry s
    exact ⟨fun hp => absurd isConfig hp, fun e he => by rwa [hhealth], fun _ e c hc => .inr (by rwa [htable])⟩
  | unlock es =>
    obtain ⟨htable, hmap, -⟩ := unlockEntries_parts es s
    exact Remembers.butTrials (.of_eq hmap htable)
  | decay e c x found running suspect =>
    exact Remembers.butTrials (.of_map (takeDecay_parts e c x s).1 fun k d => (takeDecay_confirmedIn found suspect k d).mpr)
  | failsafe cause => exact Remembers.butTrials (.of_eq (by simp) (by simp))
  | tick => exact Remembers.butTrials (.of_map rfl fun e c => (tickTimers_confirmedIn s e c).mpr)
  | corrupt k b h =>
    refine (Remembers.of_eq ?_ ?_).butTrials
    · unfold corruptImage; split <;> rfl
    · unfold corruptImage; split <;> rfl
  | powerOn a b h => subst h; cases hi
  | keyCycle h => subst h; cases hi

/-- Settles O58: a command's one action forgets nothing but what a trial start takes away, and quiet changes nothing. -/
theorem nothingIsForgottenBeforeAReset : Obligations.NothingIsForgottenBeforeAReset := by
  unfold Obligations.NothingIsForgottenBeforeAReset
  intro i s t hexec hi
  obtain ⟨a, b, ha, hact, hb⟩ := exec_effect hexec
  obtain ⟨hbudget, hlocked, hconfirmed⟩ := hact.remembersButTrials hi
  rw [ha.map, ha.part] at hbudget
  rw [ha.map] at hlocked hconfirmed
  rw [ha.table] at hconfirmed
  refine ⟨fun hp e => by rw [hb.map]; exact hbudget hp e, fun e he => by rw [hb.map]; exact hlocked e he,
    fun htrials x hx hstate => ?_⟩
  have hballot : ∀ y, a.recovery.ballot = some y →
      s.map.health.get y.element = .isolated ∨ s.map.health.get y.element = .degraded := by
    intro y hy
    rcases ha.ballot with h | h
    · exact htrials.2.2 y (h.symm.trans hy)
    · rw [h] at hy
      cases hy
  rw [hb.map, hb.table]
  exact hconfirmed hballot x.element x.cls ⟨x, hx, rfl, rfl, hstate⟩

end Sys2Proof.Machine
end

section
/-! The records after a report, record by record (R26 to R32), and what each record keeps of the fields of its state. -/

namespace Sys2Proof.Machine

/-! ### The records after a report -/

/-- A record of the list once a report is scored: one of another pair as it stood, or the record the report is scored
in. -/
theorem mem_scoredRecords {r : FaultReport} {s : State} (hw : TableWellFormed s) {y : FaultRecord}
    (hy : y ∈ scoredRecords r s) :
    (y ∈ s.table.records ∧ ofPair r.element r.cls y = false) ∨ y = scoredRecord r s := by
  cases hf : findRecord s.table.records r.element r.cls with
  | some x =>
    simp only [scoredRecords, hf, List.mem_map] at hy
    obtain ⟨z, hz, rfl⟩ := hy
    cases hp : ofPair r.element r.cls z with
    | false => exact .inl ⟨by simpa using hz, by simpa using hp⟩
    | true =>
      obtain rfl := (ofPair_iff_eq_found hw hf hz).mp hp
      exact .inr (by simp [scoredRecord, hf])
  | none =>
    have hall := List.find?_eq_none.mp hf
    have other : ∀ z ∈ s.table.records, z ∈ s.table.records ∧ ofPair r.element r.cls z = false := fun z hz =>
      ⟨hz, by simpa using hall z hz⟩
    simp only [scoredRecords, hf, List.mem_append, List.mem_singleton] at hy
    rcases hy with hy | rfl
    · refine .inl (other y ?_)
      split at hy
      · exact hy
      · exact (evictLowest_sublist _).subset hy
    · exact .inr (by simp only [scoredRecord, hf])

/-- Everything that a record can be after a report: as it stood, scored by the report and not to be confirmed, or
scored and then confirmed (R26, R27, R31, R32). -/
theorem mem_handReport {r : FaultReport} {s : State} (hw : TableWellFormed s) {y : FaultRecord}
    (hy : y ∈ (handReport r s).table.records) :
    y ∈ s.table.records ∨
    (y = scoredRecord r s ∧ (y.state = .suspect →
      shouldConfirm (classParams s.osc.image r.cls) s.map.health y = false)) ∨
    ((scoredRecord r s).state = .suspect ∧ y = confirmed s.time.uptime (scoredRecord r s)) := by
  by_cases hr : Running s
  case neg => exact .inl (by rwa [handReport_of_not_running hr] at hy)
  by_cases hroom : RoomFor r s
  case neg =>
    rw [handReport_of_running hr, takeReport_of_no_room hroom, leaveUnrecorded_table_records] at hy
    exact .inl hy
  rw [handReport_of_running hr, takeReport_of_room hroom, testRecord_scored] at hy
  split_ifs at hy with hc
  case pos =>
    rw [confirmRecord_records] at hy
    obtain ⟨z, hz, rfl⟩ := List.mem_map.mp hy
    rcases mem_scoredRecords hw hz with ⟨hz, hp⟩ | rfl
    · exact .inl (by simpa [hp] using hz)
    · have hp : ofPair r.element r.cls (scoredRecord r s) = true := List.find?_some (findRecord_scoredRecords r s)
      exact .inr (.inr ⟨hc.1, if_pos hp⟩)
  case neg =>
    rcases mem_scoredRecords hw hy with ⟨hz, -⟩ | rfl
    · exact .inl hz
    · exact .inr (.inl ⟨rfl, fun hs => by simpa [hs] using hc⟩)

/-- The record that a report is scored in is one of the table's after the report joined it, or a new one. -/
theorem scoredRecord_cases (r : FaultReport) (s : State) :
    (∃ x ∈ s.table.records, x.cls = r.cls ∧
      scoredRecord r s = joinRecord (classParams s.osc.image r.cls) r s.time.uptime x) ∨
    scoredRecord r s = newRecord (classParams s.osc.image r.cls) r s.time.uptime := by
  cases hf : findRecord s.table.records r.element r.cls with
  | some x =>
    have hp : ofPair r.element r.cls x = true := List.find?_some hf
    exact .inl ⟨x, List.mem_of_find?_eq_some hf, (ofPair_iff.mp hp).2, by simp only [scoredRecord, hf]⟩
  | none => exact .inr (by simp only [scoredRecord, hf])

/-! ### The fields of a record -/

/-- A report that comes from a line names it (R54). -/
def NamesItsLine (r : FaultReport) : Prop := r.origin = .lines → r.line.isSome = true

theorem classParams_confirm_le (image : List Byte) (c : FaultClass) : (classParams image c).confirm ≤ 255 := by
  have bound : ∀ b : List Byte, (classOf b).confirm ≤ 255 := fun b => Nat.le_of_lt_succ (byteAt b 1).isLt
  cases c
  case adoptionLapse => exact (by decide : 1 ≤ 255)
  all_goals exact bound _

@[simp] theorem insert_lines (v : OriginSet) (o : Origin) : (v.insert o).lines = (v.lines || o == .lines) := by
  cases o <;> simp [OriginSet.insert]

section
variable {k : ClassParams} {r : FaultReport} {x : FaultRecord}

theorem scoreAfter_le (hk : k.confirm ≤ 255) (hx : x.score ≤ 255) : scoreAfter k r x ≤ 255 := by
  unfold scoreAfter
  split <;> omega

theorem recordFieldsAgree_joinRecord (hk : k.confirm ≤ 255) (hr : NamesItsLine r) (hx : RecordFieldsAgree x)
    (now : Uptime) : RecordFieldsAgree (joinRecord k r now x) := by
  obtain ⟨hconfirmed, hdecay, hline, hscore, hmin, hmax⟩ := hx
  refine ⟨hconfirmed, ?_, ?_, scoreAfter_le hk hscore, ?_, ?_⟩
  · cases hs : x.state <;> simp_all [joinRecord]
  · by_cases ho : r.origin = .lines
    · have := hr ho
      cases hl : x.line <;> simp_all [joinRecord]
    · simpa [joinRecord, ho] using hline
  · simp only [joinRecord]; omega
  · simp only [joinRecord]; omega

theorem recordFieldsAgree_newRecord (hk : k.confirm ≤ 255) (hr : NamesItsLine r) (now : Uptime) :
    RecordFieldsAgree (newRecord k r now) := by
  refine ⟨by simp [newRecord], by simp [newRecord], ?_, ?_, by simp [newRecord], by simp [newRecord]⟩
  · by_cases ho : r.origin = .lines
    · simp [newRecord, ho, hr ho]
    · simp [newRecord, ho, noOrigins]
  · simp only [newRecord]
    split <;> omega

theorem recordFieldsAgree_confirmed (hx : RecordFieldsAgree x) (now : Uptime) :
    RecordFieldsAgree (confirmed now x) := by
  obtain ⟨-, -, hrest⟩ := hx
  exact ⟨by simp [confirmed], by simp [confirmed], hrest⟩

/-- A record that decays is SUSPECT before and after (R36). -/
theorem recordFieldsAgree_decayRecord (hs : x.state = .suspect) (hx : RecordFieldsAgree x) :
    RecordFieldsAgree (decayRecord k x) := by
  obtain ⟨hconfirmed, -, hline, hscore, hreports⟩ := hx
  exact ⟨hconfirmed, by simp [decayRecord, hs], hline, (Nat.sub_le _ _).trans hscore, hreports⟩

theorem recordFieldsAgree_ticked (hx : RecordFieldsAgree x) :
    RecordFieldsAgree { x with decay := tickTimer x.decay } := by
  obtain ⟨hconfirmed, hdecay, hrest⟩ := hx
  exact ⟨hconfirmed, by simpa [tickTimer] using hdecay, hrest⟩

end

theorem recordsAgree_handReport {s : State} (hw : TableWellFormed s) (hs : RecordsAgree s) {r : FaultReport}
    (hr : NamesItsLine r) : RecordsAgree (handReport r s) := by
  have hk := classParams_confirm_le s.osc.image r.cls
  have hscored : RecordFieldsAgree (scoredRecord r s) := by
    rcases scoredRecord_cases r s with ⟨x, hx, -, h⟩ | h <;> rw [h]
    · exact recordFieldsAgree_joinRecord hk hr (hs x hx) _
    · exact recordFieldsAgree_newRecord hk hr _
  intro y hy
  rcases mem_handReport hw hy with h | ⟨rfl, -⟩ | ⟨-, rfl⟩
  · exact hs y h
  · exact hscored
  · exact recordFieldsAgree_confirmed hscored _

end Sys2Proof.Machine
end

section
/-! What a move of the machine keeps of the records and the image (O49, O51): their form, and the scores of SUSPECT
records between the thresholds of their classes. -/

namespace Sys2Proof.Machine

/-! ### Scores between the thresholds -/

theorem shouldConfirm_score {k : ClassParams} {health : PerElement Health} {x : FaultRecord}
    (h : shouldConfirm k health x = false) : x.score < k.confirm := by
  simp only [shouldConfirm, Bool.or_eq_false_iff, decide_eq_false_iff_not, not_le] at h
  exact h.1.1

theorem clear_lt_scoreAfter {k : ClassParams} (r : FaultReport) {x : FaultRecord} (hk : k.clear ≤ 254)
    (hx : k.clear < x.score) : k.clear < scoreAfter k r x := by
  unfold scoreAfter
  split <;> omega

theorem clear_lt_newRecord_score {k : ClassParams} (r : FaultReport) (now : Uptime) (hconfirm : k.clear < k.confirm)
    (hweight : k.clear < k.weight) (hmax : k.clear ≤ 254) : k.clear < (newRecord k r now).score := by
  simp only [newRecord, reportWeight]
  split_ifs <;> omega

theorem scoredRecord_cls (r : FaultReport) (s : State) : (scoredRecord r s).cls = r.cls := by
  rcases scoredRecord_cases r s with ⟨x, -, hx, h⟩ | h <;> rw [h]
  · exact hx
  · rfl

/-- A report leaves a SUSPECT record above its clear threshold, and below the confirm threshold or it confirms it. -/
theorem suspectScoresBetween_handReport {s : State} (hw : TableWellFormed s) (hclasses : ClassesAgree s)
    (hs : SuspectScoresBetween s) (r : FaultReport) : SuspectScoresBetween (handReport r s) := by
  intro y hy hsuspect
  rw [handReport_osc]
  rcases mem_handReport hw hy with h | ⟨rfl, htest⟩ | ⟨-, rfl⟩
  · exact hs y h hsuspect
  · obtain ⟨hconfirm, hweight, hmax⟩ := hclasses r.cls
    rw [scoredRecord_cls]
    refine ⟨?_, shouldConfirm_score (htest hsuspect)⟩
    rcases scoredRecord_cases r s with ⟨x, hx, hcls, h⟩ | h <;> rw [h] at hsuspect ⊢
    · exact clear_lt_scoreAfter r hmax (hcls ▸ (hs x hx hsuspect).1)
    · exact clear_lt_newRecord_score r _ hconfirm hweight hmax
  · cases hsuspect

/-! ### Tidy moves -/

/-- The image stays, CONFIG is not entered, and the records keep everything that R20 to R22 and R36 say of them. -/
structure Tidy (s t : State) : Prop where
  image : t.osc.image = s.osc.image
  config : t.osc.part = .config → s.osc.part = .config
  wellFormed : TableWellFormed s → TableWellFormed t
  records : TableWellFormed s → RecordsAgree s → RecordsAgree t
  scores : TableWellFormed s → ClassesAgree s → SuspectScoresBetween s → SuspectScoresBetween t

theorem classesAgree_of_image {s t : State} (h : t.osc.image = s.osc.image) (hs : ClassesAgree s) : ClassesAgree t := by
  intro c
  rw [h]
  exact hs c

theorem Tidy.trans {s t u : State} (h : Tidy s t) (k : Tidy t u) : Tidy s u where
  image := k.image.trans h.image
  config hp := h.config (k.config hp)
  wellFormed hw := k.wellFormed (h.wellFormed hw)
  records hw hs := k.records (h.wellFormed hw) (h.records hw hs)
  scores hw hc hs := k.scores (h.wellFormed hw) (classesAgree_of_image h.image hc) (h.scores hw hc hs)

/-- Records may go, and the others stay in their order. -/
theorem Tidy.of_sublist {s t : State} (image : t.osc.image = s.osc.image)
    (config : t.osc.part = .config → s.osc.part = .config)
    (records : t.table.records.Sublist s.table.records) : Tidy s t where
  image := image
  config := config
  wellFormed hw := tableWellFormed_sublist hw records
  records _ hs x hx := hs x (records.subset hx)
  scores _ _ hs x hx := by
    rw [image]
    exact hs x (records.subset hx)

theorem Tidy.of_table {s t : State} (image : t.osc.image = s.osc.image)
    (config : t.osc.part = .config → s.osc.part = .config) (table : t.table = s.table) : Tidy s t :=
  .of_sublist image config (by rw [table])

theorem Tidy.refl (s : State) : Tidy s s := .of_table rfl id rfl

theorem Tidy.quiet {s t : State} (h : Quiet s t) : Tidy s t := .of_table h.image (fun hp => by rwa [← h.part]) h.table

theorem Tidy.report {r : FaultReport} (hr : NamesItsLine r) (s : State) : Tidy s (handReport r s) where
  image := by simp
  config hp := by simpa using hp
  wellFormed hw := handReport_tableWellFormed hw r
  records hw hs := recordsAgree_handReport hw hs hr
  scores hw hc hs := suspectScoresBetween_handReport hw hc hs r

theorem Tidy.foldl {α : Type} {f : State → α → State} (hf : ∀ a s, Tidy s (f s a)) (as : List α) (s : State) :
    Tidy s (as.foldl f s) :=
  foldl_keeps (P := Tidy s) (fun a u hu => hu.trans (hf a u)) as (Tidy.refl s)

theorem startTrial_tidy (slot : TrialSlot) (e : Element) (s : State) : Tidy s (startTrial slot e s) :=
  .of_sublist (by simp) (fun hp => by simpa using hp) (by rw [startTrial_records]; exact List.filter_sublist)

theorem runEntry_tidy (s : State) : Tidy s (runEntry s) :=
  .of_table (by simp) (fun hp => by rw [runEntry_part] at hp; cases hp) (by simp)

theorem startVoteReports_tidy (s : State) : Tidy s (startVoteReports s) :=
  Tidy.foldl (f := fun s p => handReport (startVoteReport p) s) (fun _ => Tidy.report nofun) _ s

theorem tickTimers_tidy (s : State) : Tidy s (tickTimers s) where
  image := rfl
  config := id
  wellFormed hw :=
    tableWellFormed_map hw (f := fun x => { x with decay := tickTimer x.decay }) (fun _ => ⟨rfl, rfl⟩) rfl
  records _ hs y hy := by
    obtain ⟨x, hx, rfl⟩ := List.mem_map.mp hy
    exact recordFieldsAgree_ticked (hs x hx)
  scores _ _ hs y hy hsuspect := by
    obtain ⟨x, hx, rfl⟩ := List.mem_map.mp hy
    exact hs x hx hsuspect

/-- A record of the list after a change of the record that is found for a pair: one that stood, or the changed one. -/
theorem mem_onRecord {s : State} (hw : TableWellFormed s) {e : Element} {c : FaultClass} {x y : FaultRecord}
    (hx : findRecord s.table.records e c = some x) {f : FaultRecord → FaultRecord}
    (hy : y ∈ (onRecord e c f s).table.records) : y ∈ s.table.records ∨ y = f x := by
  obtain ⟨z, hz, rfl⟩ := List.mem_map.mp hy
  cases hp : ofPair e c z with
  | true => exact .inr (by rw [(ofPair_iff_eq_found hw hx hz).mp hp, if_pos rfl])
  | false => exact .inl (by simpa using hz)

/-- A decay lowers the score of a SUSPECT record that stays above the clear threshold, or removes it (R36). -/
theorem takeDecay_tidy {e : Element} {c : FaultClass} {x : FaultRecord} {s : State}
    (hx : findRecord s.table.records e c = some x) (hs : x.state = .suspect) : Tidy s (takeDecay e c x s) := by
  have hxc : x.cls = c := (ofPair_iff.mp (List.find?_some hx)).2
  have hmem := List.mem_of_find?_eq_some hx
  by_cases hlow : x.score - 1 ≤ (classParams s.osc.image c).clear
  · rw [takeDecay, if_pos hlow]
    exact .of_sublist rfl id List.eraseP_sublist
  · have hstays : takeDecay e c x s = onRecord e c (decayRecord (classParams s.osc.image c)) s := if_neg hlow
    have hosc := (takeDecay_parts e c x s).2
    refine ⟨by rw [hosc], fun hp => by rwa [hosc] at hp, fun hw => takeDecay_tableWellFormed hw e c x,
      fun hw ha y hy => ?_, fun hw _ hb y hy hsuspect => ?_⟩ <;> rw [hstays] at hy
    · rcases mem_onRecord hw hx hy with h | rfl
      · exact ha y h
      · exact recordFieldsAgree_decayRecord hs (ha x hmem)
    · rw [hosc]
      rcases mem_onRecord hw hx hy with h | rfl
      · exact hb y h hsuspect
      · have := (hb x hmem hs).2
        rw [hxc] at this
        simp only [decayRecord, hxc]
        omega

end Sys2Proof.Machine
end

section
/-! The link port's own moves, for any relation between states that they satisfy, and the states that the owning blocks
leave when they answer a request. -/

namespace Sys2Proof.Machine

/-! ### The link port's own moves -/

/-- A relation between states that chains, and that the link port's own moves satisfy: a change of a port, the end of a
service arm, a report of the device (R173 to R176). -/
structure LinkMoves (R : State → State → Prop) : Prop where
  refl : ∀ s, R s s
  trans : ∀ {s t u}, R s t → R t u → R s u
  port : ∀ p v s, R s (setPort p v s)
  disarm : ∀ p s, R s (disarmFrom p s)
  report : ∀ {r}, NamesItsLine r → ∀ s, R s (handReport r s)

theorem namesItsLine_monitorReport (e : Element) (c : FaultClass) : NamesItsLine (monitorReport e c) := nofun

theorem namesItsLine_portReport (p : Port) (e : Element) (c : FaultClass) (detail : Option Half) :
    NamesItsLine (portReport p e c detail) := by cases p <;> nofun

theorem namesItsLine_lineReport (l : FaultLine) (v : LineConfig) : NamesItsLine (lineReport l v) := fun _ => rfl

section
variable {R : State → State → Prop} (H : LinkMoves R)
include H

theorem LinkMoves.discard (p : Port) (k : LinkError) (s : State) : R s (discard p k s) :=
  H.trans (H.port _ _ _) (H.trans (H.disarm _ _) (H.report (namesItsLine_monitorReport _ _) _))

theorem LinkMoves.overlapByte (p : Port) (s : State) : R s (overlapByte p s) := by
  unfold Machine.overlapByte
  split
  · exact H.refl s
  · exact H.discard p .overlap s

/-- The taking of a request is a move of the link port's own, or hands the request to its owning block once the frame
stands in the buffer. -/
theorem LinkMoves.takeRequest_cases (p : Port) (code : Byte) (payload : List Byte) (disarms : Bool)
    (act : State → Taken) (s : State) :
    R s (takeRequest p code payload disarms act s) ∨
    ∃ u, R s u ∧ Quiet s u ∧ takeRequest p code payload disarms act s = sendReply p code (act u) := by
  have framed : R s (storeFrame p code payload s) := H.port _ _ _
  have disarmed := H.trans framed (H.disarm p _)
  have quiet : Quiet s (storeFrame p code payload s) := quiet_setPort _ _ _
  have sent : ∀ t : Taken, R t.state (sendReply p code t) := fun t => H.port _ _ _
  unfold takeRequest
  split_ifs
  · exact .inl (H.refl s)
  · exact .inl (H.overlapByte p s)
  · exact .inl (H.discard p .length s)
  · exact .inl (H.trans disarmed (sent (refuse .unknown _)))
  · exact .inl (H.trans disarmed (sent (refuse .range _)))
  · exact .inr ⟨_, disarmed, quiet.trans (quiet_disarmFrom _ _), rfl⟩
  · exact .inr ⟨_, framed, quiet, rfl⟩

/-- The taking of a request does what its owning block does, and moves of the link port's own. -/
theorem LinkMoves.takeRequest {p : Port} {code : Byte} {payload : List Byte} {disarms : Bool} {act : State → Taken}
    (h : ∀ u, R u (act u).state) (s : State) : R s (takeRequest p code payload disarms act s) := by
  rcases H.takeRequest_cases p code payload disarms act s with hown | ⟨u, hu, -, heq⟩
  · exact hown
  · rw [heq]
    exact H.trans hu (H.trans (h u) (H.port _ _ _))

theorem LinkMoves.unknownRequest (p : Port) (code : Byte) (payload : List Byte) (s : State) :
    R s (unknownRequest p code payload s) := by
  unfold Machine.unknownRequest
  split
  · exact H.refl s
  · exact H.takeRequest (act := fun s => refuse .range s) H.refl s

theorem LinkMoves.frameDiscard (p : Port) (kind : FrameError) (s : State) : R s (frameDiscard p kind s) := by
  unfold Machine.frameDiscard
  split
  · exact H.overlapByte p s
  · exact H.refl s
  · exact H.refl s
  · exact H.discard p _ s
  · exact H.discard p _ s

theorem LinkMoves.gapDiscard (p : Port) (s : State) : R s (gapDiscard p s) := by
  unfold Machine.gapDiscard
  split
  · exact H.discard p .gap s
  · exact H.refl s

theorem LinkMoves.endReply (p : Port) (s : State) : R s (endReply p s) := by
  unfold Machine.endReply
  split
  · exact H.port _ _ _
  · exact H.refl s

theorem LinkMoves.startFrame (p : Port) (b : Byte) (s : State) : R s (startFrame p b s) := by
  unfold Machine.startFrame
  split
  · exact H.port _ _ _
  · exact H.refl s
  · exact H.overlapByte p s

/-- What holds of an event that is taken holds of one that the reset keeps from being taken. -/
theorem LinkMoves.unlessHeld {f : State → State} (s : State) (h : R s (f s)) : R s (unlessHeld f s) := by
  unfold Machine.unlessHeld
  split
  · exact H.refl s
  · exact h

end

/-! ### The blocks' answers: what they leave -/

theorem readStatus_state (p : Port) (page : Byte) (s : State) : (readStatus p page s).state = s := by
  unfold readStatus
  split <;> rfl

theorem readElement_state (n : Byte) (s : State) : (readElement n s).state = s := by
  unfold readElement
  split <;> rfl

theorem readFault_state (n : Byte) (s : State) : (readFault n s).state = s := by
  unfold readFault
  split
  · rfl
  · split <;> rfl

theorem readRetained_state (n : Byte) (s : State) : (readRetained n s).state = s := by
  unfold readRetained
  split <;> rfl

theorem readConfig_state (k n : Byte) (s : State) : (readConfig k n s).state = s := by
  unfold readConfig
  split <;> rfl

/-- A SET_FLOOR is refused, finds the floor as it is asked for, or sets it with a recompute (R71). -/
theorem setFloor_state (p : Port) (profile : Byte) (s : State) :
    (setFloor p profile s).state = s ∨ ∃ f, (setFloor p profile s).state = recompute (setFloorOf p f s) := by
  unfold setFloor
  split
  · exact .inl rfl
  · split_ifs
    · exact .inl rfl
    · split
      · exact .inl rfl
      · unfold acceptFloor
        dsimp only [accept]
        split_ifs
        · exact .inl rfl
        · exact .inr ⟨_, rfl⟩

/-- An ADOPT is refused, or sets its axle's adoption record with an output update (R95, R96). -/
theorem adopt_state (p : Port) (generation : Half) (s : State) :
    (adopt p generation s).state = s ∨ ∃ d v, (adopt p generation s).state = updateOutputs (setAdoption d v s) := by
  unfold adopt
  split
  · exact .inl rfl
  · exact .inl rfl
  · exact .inl rfl
  · split
    · exact .inl rfl
    · split_ifs
      · exact .inl rfl
      · exact .inl rfl
      · exact .inr ⟨_, _, rfl⟩

/-- A REPORT is refused, or hands the report of its port (R45, R47). -/
theorem report_state (p : Port) (e c : Byte) (detail : Option Half) (s : State) :
    (report p e c detail s).state = s ∨
    ∃ e' c', (report p e c detail s).state = handReport (portReport p e' c' detail) s := by
  unfold report
  split
  · exact .inl rfl
  · split_ifs
    · exact .inl rfl
    · split
      · split_ifs
        · exact .inl rfl
        · exact .inr ⟨_, _, rfl⟩
      · exact .inl rfl

/-- A RELEASE is refused, or opens a ballot (R117, R119). -/
theorem release_state (p : Port) (element : Byte) (s : State) :
    (release p element s).state = s ∨ ∃ e, (release p element s).state = (openBallot p e s).state := by
  unfold release
  repeat' split
  any_goals exact .inl rfl
  exact .inr ⟨_, rfl⟩

/-- A START is refused, or taken (R168). -/
theorem start_state (p : Port) (named : Half) (s : State) :
    (start p named s).state = s ∨ (start p named s).state = acceptStart p s := by
  unfold start
  split_ifs
  · exact .inl rfl
  · exact .inl rfl
  · exact .inl rfl
  · exact .inr rfl

/-- The checks of an entry that is written: its index, its fields' ranges and the cross-field checks (Table 10.5). -/
structure EntryChecked (k : Sect) (n : Nat) (entry : List Byte) : Prop where
  index : n < sectCount k
  fields : fieldsInRange k entry = true
  cross : crossFields k entry = true

/-- A WRITE_CONFIG is refused, or in CONFIG writes an entry that has passed its checks (R164, R165). -/
theorem writeConfig_state (p : Port) (kb nb : Byte) (entry : List Byte) (s : State) :
    (writeConfig p kb nb entry s).state = s ∨
    ∃ k n, s.osc.part = .config ∧ EntryChecked k n entry ∧
      (writeConfig p kb nb entry s).state = acceptWrite k n entry s := by
  unfold writeConfig
  split_ifs with hf hc
  · exact .inl rfl
  · exact .inl rfl
  · exact .inl rfl
  · split
    · exact .inl rfl
    · split_ifs with hn hrange hcross
      · exact .inl rfl
      · exact .inl rfl
      · exact .inl rfl
      · exact .inr ⟨_, _, not_not.mp hc, ⟨by omega, by simpa using hrange, by simpa using hcross⟩, rfl⟩

/-- A SERVICE_ARM is refused, or sets the arm (R154). -/
theorem serviceArm_state (p : Port) (s : State) :
    (serviceArm p s).state = s ∨ (serviceArm p s).state = setArm true s := by
  unfold serviceArm
  split_ifs
  · exact .inl rfl
  · exact .inl rfl
  · exact .inl rfl
  · exact .inl rfl
  · exact .inr rfl

/-- A SERVICE_CLEAR is refused, or ends the arm and unlocks the entries that it names, or none (R155). -/
theorem serviceClear_state (p : Port) (which : Byte) (s : State) :
    (serviceClear p which s).state = s ∨
    ∃ es : List Element, (serviceClear p which s).state = es.foldl (fun s e => unlockEntry e s) (setArm false s) := by
  unfold serviceClear
  split_ifs
  · exact .inl rfl
  · exact .inl rfl
  · exact .inl rfl
  · split
    · exact .inr ⟨[], rfl⟩
    · exact .inr ⟨_, rfl⟩

end Sys2Proof.Machine
end

section
/-! What every command does to the records and the image, and from it the form of the table (O49). -/

namespace Sys2Proof.Machine

theorem tidyMoves : LinkMoves Tidy where
  refl := Tidy.refl
  trans := Tidy.trans
  port p v s := Tidy.quiet (quiet_setPort p v s)
  disarm p s := Tidy.quiet (quiet_disarmFrom p s)
  report := Tidy.report

/-! ### The blocks' answers -/

theorem readNotice_tidy (p : Port) (s : State) : Tidy s (readNotice p s).state :=
  Tidy.quiet (quiet_onNotices p (fun v => (nextNotice s.recovery v).2) s)

theorem checkIn_tidy (p : Port) (s : State) : Tidy s (checkIn p s).state := by
  unfold checkIn
  split_ifs
  · exact Tidy.refl s
  · exact .of_table rfl id rfl
  · exact Tidy.refl s

theorem report_tidy (p : Port) (e c : Byte) (detail : Option Half) (s : State) :
    Tidy s (report p e c detail s).state := by
  rcases report_state p e c detail s with h | ⟨e', c', h⟩ <;> rw [h]
  · exact Tidy.refl s
  · exact Tidy.report (namesItsLine_portReport _ _ _ _) s

theorem setFloor_tidy (p : Port) (profile : Byte) (s : State) : Tidy s (setFloor p profile s).state := by
  rcases setFloor_state p profile s with h | ⟨f, h⟩ <;> rw [h]
  · exact Tidy.refl s
  · exact Tidy.trans (t := setFloorOf p f s) (.of_table rfl id rfl) (Tidy.quiet (quiet_recompute _))

theorem adopt_tidy (p : Port) (generation : Half) (s : State) : Tidy s (adopt p generation s).state := by
  rcases adopt_state p generation s with h | ⟨d, v, h⟩ <;> rw [h]
  · exact Tidy.refl s
  · exact Tidy.quiet ((quiet_setAdoption d v s).trans (quiet_updateOutputs _))

theorem setBallot_tidy (b : Option Ballot) (s : State) : Tidy s (setBallot b s) := .of_table rfl id rfl

theorem passBallot_tidy (b : Ballot) (s : State) : Tidy s (passBallot b s).state := by
  unfold passBallot
  split
  · exact (Tidy.quiet (quiet_closeBallot none s)).trans (startTrial_tidy _ _ _)
  · exact Tidy.quiet (quiet_closeBallot (some (.voided .noSlot)) s)

theorem openBallot_tidy (p : Port) (e : Element) (s : State) : Tidy s (openBallot p e s).state := by
  unfold openBallot
  dsimp only
  split
  · exact (setBallot_tidy _ s).trans (passBallot_tidy _ _)
  · exact (setBallot_tidy _ s).trans (Tidy.quiet (quiet_postBallot _ _ _))

theorem release_tidy (p : Port) (element : Byte) (s : State) : Tidy s (release p element s).state := by
  rcases release_state p element s with h | ⟨e, h⟩ <;> rw [h]
  · exact Tidy.refl s
  · exact openBallot_tidy p e s

theorem answerBallot_tidy (p : Port) (b : Ballot) (s : State) : Tidy s (answerBallot p b s).state := by
  unfold answerBallot
  split
  · exact Tidy.refl s
  · have answered := (setBallot_tidy (some { b with answered := b.answered.set p true }) s).trans
      (Tidy.quiet (quiet_onNotices p (fun v => { v with ballot := none }) _))
    dsimp only
    split
    · exact answered.trans (passBallot_tidy _ _)
    · exact answered

theorem consent_tidy (p : Port) (element : Byte) (s : State) : Tidy s (consent p element s).state := by
  unfold consent
  split
  · exact Tidy.refl s
  · exact answerBallot_tidy p _ s

theorem veto_tidy (p : Port) (element : Byte) (s : State) : Tidy s (veto p element s).state := by
  unfold veto
  split
  · exact Tidy.refl s
  · exact Tidy.quiet (quiet_closeBallot (some .vetoed) s)

theorem acceptStart_tidy (p : Port) (s : State) : Tidy s (acceptStart p s) := by
  obtain ⟨htable, -, himage, -, hpart⟩ := acceptStart_cases p s
  refine .of_table himage (fun hp => ?_) htable
  rcases hpart with h | h
  · rwa [← h]
  · exact absurd hp h

theorem start_tidy (p : Port) (named : Half) (s : State) : Tidy s (start p named s).state := by
  rcases start_state p named s with h | h <;> rw [h]
  · exact Tidy.refl s
  · exact acceptStart_tidy p s

theorem serviceArm_tidy (p : Port) (s : State) : Tidy s (serviceArm p s).state := by
  rcases serviceArm_state p s with h | h <;> rw [h]
  · exact Tidy.refl s
  · exact Tidy.quiet (quiet_setArm true s)

theorem serviceClear_tidy (p : Port) (which : Byte) (s : State) : Tidy s (serviceClear p which s).state := by
  rcases serviceClear_state p which s with h | ⟨es, h⟩ <;> rw [h]
  · exact Tidy.refl s
  · obtain ⟨htable, -, hosc⟩ := unlockEntries_parts es (setArm false s)
    exact .of_table (by rw [hosc]; rfl) (fun hp => by rwa [hosc] at hp) (by rw [htable]; rfl)

/-! ### The timers and the samples -/

theorem decayExpiry_tidy (e : Element) (c : FaultClass) (s : State) : Tidy s (decayExpiry e c s) := by
  unfold decayExpiry
  split
  · exact Tidy.refl s
  · rename_i x hx
    split_ifs with hg
    · simp only [Bool.and_eq_true, beq_iff_eq] at hg
      exact takeDecay_tidy hx hg.2
    · exact Tidy.refl s

theorem checkInDeadlineExpiry_tidy (p : Port) (s : State) : Tidy s (checkInDeadlineExpiry p s) := by
  unfold checkInDeadlineExpiry
  split
  · exact Tidy.trans (t := setContact p _ s) (.of_table rfl id rfl) (Tidy.report (namesItsLine_monitorReport _ _) _)
  · exact Tidy.refl s

theorem adoptionDeadlineExpiry_tidy (d : DrivePort) (s : State) : Tidy s (adoptionDeadlineExpiry d s) := by
  unfold adoptionDeadlineExpiry
  split
  · exact (Tidy.quiet (quiet_setAdoption _ _ s)).trans
      ((Tidy.report (namesItsLine_monitorReport _ _) _).trans (Tidy.quiet (quiet_restartAdoption d _)))
  · exact Tidy.refl s

theorem trialExpiry_tidy (slot : TrialSlot) (s : State) : Tidy s (trialExpiry slot s) := by
  unfold trialExpiry
  split
  · exact Tidy.refl s
  · split
    · exact .of_table (by simp) (fun hp => by simpa using hp) (by simp)
    · exact Tidy.refl s

theorem startWindowExpiry_tidy (s : State) : Tidy s (startWindowExpiry s) := by
  unfold startWindowExpiry
  split
  · exact (startVoteReports_tidy s).trans (runEntry_tidy _)
  · exact Tidy.refl s

theorem requestFailsafe_tidy (cause : Cause) (s : State) : Tidy s (requestFailsafe cause s) :=
  .of_table (by simp) (fun hp => by rw [requestFailsafe_part] at hp; cases hp) (by simp)

theorem integrityCheckExpiry_tidy (s : State) : Tidy s (integrityCheckExpiry s) := by
  have reloaded : Tidy s { s with osc.integrity := some integrityPeriod } := .of_table rfl id rfl
  unfold integrityCheckExpiry
  split
  · unfold checkIntegrity
    split
    · exact reloaded
    · exact reloaded.trans (requestFailsafe_tidy _ _)
  · exact Tidy.refl s

theorem sampleLevel_tidy (l : FaultLine) (high : Bool) (s : State) : Tidy s (sampleLevel l high s) := by
  unfold sampleLevel
  dsimp only
  split
  · exact (Tidy.quiet (quiet_setLine l _ s)).trans (Tidy.report (namesItsLine_lineReport l _) _)
  · exact Tidy.quiet (quiet_setLine l _ s)

theorem sampleEdge_tidy (l : FaultLine) (high : Bool) (s : State) : Tidy s (sampleEdge l high s) := by
  unfold sampleEdge
  dsimp only
  split
  · exact Tidy.quiet (quiet_setLine l _ s)
  · split
    · exact (Tidy.quiet (quiet_setLine l _ s)).trans (Tidy.report (namesItsLine_lineReport l _) _)
    · exact Tidy.quiet (quiet_setLine l _ s)

theorem sampleLine_tidy (l : FaultLine) (high : Bool) (s : State) : Tidy s (sampleLine l high s) := by
  unfold sampleLine
  split
  · split
    · exact sampleLevel_tidy l high s
    · exact sampleEdge_tidy l high s
  · exact Tidy.refl s

/-- An event that a line's sample would bring about is that sample, or does not take place. -/
theorem sampleLine_or_idle_tidy (taken : Prop) [Decidable taken] (l : FaultLine) (high : Bool) (s : State) :
    Tidy s (if taken then sampleLine l high s else s) := by
  split
  · exact sampleLine_tidy l high s
  · exact Tidy.refl s

theorem sampleReadback_tidy (first : DrivePort) (v : Readback) (s : State) : Tidy s (sampleReadback first v s) := by
  have counted := Tidy.quiet (quiet_countMismatches v s)
  rcases sampleReadback_cases first v s with h | ⟨d, -, h⟩ <;> rw [h]
  · exact counted
  · exact counted.trans (requestFailsafe_tidy _ _)

theorem readbackMismatch_tidy (m : ThirdMismatch) (s : State) : Tidy s (readbackMismatch m s) := by
  unfold readbackMismatch
  split
  · exact sampleReadback_tidy _ _ s
  · exact Tidy.refl s

theorem tick_tidy (s : State) : Tidy s (tick s) := by
  have counted : Tidy s (tickUptime s) := .of_table rfl id rfl
  unfold tick
  split
  · exact counted
  · exact counted.trans (tickTimers_tidy _)

/-! ### Every command -/

/-- Everything that a command can do to the records and the image: it leaves the image, writes a checked entry in
CONFIG, resets the part, or corrupts the image. -/
inductive Kept (i : Instr) (s t : State) : Prop where
  | tidy (h : Tidy s t)
  | write (u : State) (k : Sect) (n : Nat) (entry : List Byte) (before : Quiet s u) (isConfig : u.osc.part = .config)
      (checked : EntryChecked k n entry) (after : Quiet (acceptWrite k n entry u) t)
  | reset (image : List Byte) (p : Port) (m : RetainedMap) (held : image = factoryImage ∨ image = s.osc.image)
      (h : t = resetBlocks image p m s)
  | corrupt (h : isCorruption i = true) (table : t.table = s.table)

theorem kept_writeConfig (p : Port) (kb nb : Byte) (entry : List Byte) (i : Instr) (s : State) :
    Kept i s (takeRequest p 0x41#8 (kb :: nb :: entry) true (writeConfig p kb nb entry) s) := by
  rcases tidyMoves.takeRequest_cases p 0x41#8 (kb :: nb :: entry) true (writeConfig p kb nb entry) s with
    h | ⟨u, hu, hq, heq⟩
  · exact .tidy h
  · rw [heq]
    have sent := quiet_sendReply p 0x41#8 (writeConfig p kb nb entry u)
    rcases writeConfig_state p kb nb entry u with h | ⟨k, n, hp, hchecked, h⟩ <;> rw [h] at sent
    · exact .tidy (hu.trans (Tidy.quiet sent))
    · exact .write u k n entry hq hp hchecked sent

theorem exec_kept {i : Instr} {s t : State} (h : exec i s = .next t) : Kept i s t := by
  have request : ∀ {p : Port} {code : Byte} {payload : List Byte} {disarms : Bool} {act : State → Taken},
      (∀ u, Tidy u (act u).state) → Kept i s (takeRequest p code payload disarms act s) :=
    fun h => .tidy (tidyMoves.takeRequest h s)
  have reads : ∀ {p : Port} {code : Byte} {payload : List Byte} {disarms : Bool} {act : State → Taken},
      (∀ u, (act u).state = u) → Kept i s (takeRequest p code payload disarms act s) :=
    fun h => request fun u => by rw [h u]; exact Tidy.refl u
  have event : ∀ {f : State → State}, Tidy s (f s) → Kept i s (unlessHeld f s) :=
    fun h => .tidy (tidyMoves.unlessHeld s h)
  cases i <;> obtain rfl := Host.Outcome.next.inj h
  case readStatus p page => exact reads (readStatus_state p page)
  case readEnvelope p => exact reads fun _ => rfl
  case readElement p n => exact reads (readElement_state n)
  case readFault p n => exact reads (readFault_state n)
  case readRetained p n => exact reads (readRetained_state n)
  case readNotice p => exact request (readNotice_tidy p)
  case readConfig p k n => exact reads (readConfig_state k n)
  case checkIn p => exact request (checkIn_tidy p)
  case report p e c detail => exact request (report_tidy p e c detail)
  case setFloor p profile => exact request (setFloor_tidy p profile)
  case adopt p generation => exact request (adopt_tidy p generation)
  case release p element => exact request (release_tidy p element)
  case consent p element => exact request (consent_tidy p element)
  case veto p element => exact request (veto_tidy p element)
  case start p named => exact request (start_tidy p named)
  case writeConfig p k n entry => exact kept_writeConfig p k n entry _ s
  case serviceArm p => exact request (serviceArm_tidy p)
  case serviceClear p which => exact request (serviceClear_tidy p which)
  case unknownRequest p code payload => exact .tidy (tidyMoves.unknownRequest p code payload s)
  case frameDiscard p kind => exact event (tidyMoves.frameDiscard p kind s)
  case gapDiscard p => exact event (tidyMoves.gapDiscard p s)
  case replyComplete p => exact event (tidyMoves.endReply p s)
  case powerOnReset a b => exact .reset _ _ _ (.inl rfl) rfl
  case keyCycleReset =>
    unfold unlessHeld
    split
    · exact .tidy (Tidy.refl s)
    · exact .reset _ _ _ (.inr rfl) rfl
  case resetEnd =>
    split
    · exact .tidy (.of_table rfl id rfl)
    · exact .tidy (Tidy.refl s)
  case decayExpiry e c => exact event (decayExpiry_tidy e c s)
  case checkInDeadlineExpiry p => exact event (checkInDeadlineExpiry_tidy p s)
  case dwellExpiry => exact event (Tidy.quiet (quiet_dwellExpiry s))
  case adoptionDeadlineExpiry d => exact event (adoptionDeadlineExpiry_tidy d s)
  case ballotWindowExpiry => exact event (Tidy.quiet (quiet_ballotWindowExpiry s))
  case trialExpiry slot => exact event (trialExpiry_tidy slot s)
  case startWindowExpiry => exact event (startWindowExpiry_tidy s)
  case integrityCheckExpiry => exact event (integrityCheckExpiry_tidy s)
  case lineQualify l => exact event (sampleLine_or_idle_tidy _ l _ s)
  case lineUnqualify l => exact event (sampleLine_or_idle_tidy _ l _ s)
  case lineEdge l => exact event (sampleLine_or_idle_tidy _ l _ s)
  case readbackMismatch m => exact event (readbackMismatch_tidy m s)
  case svcDeasserted => exact event (Tidy.quiet (quiet_sampleSvc false s))
  case lineSample l high => exact event (sampleLine_tidy l high s)
  case readbackSample first levels => exact event (sampleReadback_tidy first levels s)
  case svcAsserted => exact event (Tidy.quiet (quiet_sampleSvc true s))
  case millisecondTick => exact event (tick_tidy s)
  case configurationImageCorruption k b =>
    refine .corrupt rfl ?_
    unfold unlessHeld corruptImage
    split_ifs <;> rfl
  case frameStart p b => exact event (tidyMoves.startFrame p b s)

/-- One step does what the command at the front of the queue does, or idles. -/
theorem step_kept {s t : State} (h : step s = .next t) :
    t = s ∨ ∃ i u, s.pending.head? = some i ∧ Quiet s u ∧ Kept i u t := by
  unfold step at h
  split at h
  · exact .inl (Host.Outcome.next.inj h).symm
  · rename_i i rest hq
    have front : Quiet s { s with pending := rest } := .of_eq rfl rfl rfl rfl rfl rfl rfl rfl
    exact .inr ⟨i, _, by rw [hq, List.head?_cons], front, exec_kept h⟩

/-- A write leaves the table as it was. -/
theorem table_of_write {s u t : State} {k : Sect} {n : Nat} {entry : List Byte} (before : Quiet s u)
    (after : Quiet (acceptWrite k n entry u) t) : t.table = s.table :=
  after.table.trans ((acceptWrite_parts k n entry u).1.trans before.table)

theorem Kept.table {i : Instr} {s t : State} (h : Kept i s t) (hs : TableWellFormed s ∧ RecordsAgree s) :
    TableWellFormed t ∧ RecordsAgree t := by
  have same : t.table = s.table → TableWellFormed t ∧ RecordsAgree t := fun h => by
    rw [TableWellFormed, RecordsAgree, h]
    exact hs
  cases h with
  | tidy h => exact ⟨h.wellFormed hs.1, h.records hs.1 hs.2⟩
  | write u k n entry before isConfig checked after => exact same (table_of_write before after)
  | reset image p m held h =>
    subst h
    exact ⟨⟨Nat.zero_le _, List.Pairwise.nil⟩, fun _ hx => absurd hx List.not_mem_nil⟩
  | corrupt h table => exact same table

/-- Settles O49: every command keeps the table's form, whether it takes a report, decays, removes or leaves records. -/
theorem stepKeepsTheTable : Obligations.StepKeepsTheTable := by
  unfold Obligations.StepKeepsTheTable
  intro s t hs hstep
  rcases step_kept hstep with rfl | ⟨i, u, -, hu, hkept⟩
  · exact hs
  · have front := Tidy.quiet hu
    exact hkept.table ⟨front.wellFormed hs.1, front.records hs.1 hs.2⟩

end Sys2Proof.Machine
end

section
/-! The scores of SUSPECT records stay between the thresholds of their classes, while the image is not corrupted
(O51). -/

namespace Sys2Proof.Machine

/-! ### An entry written beside another -/

theorem entryOffset_add_le {k : Sect} {n : Nat} (hn : n < sectCount k) :
    entryOffset k n + sectLength k ≤ imageLength := by
  cases k <;> simp only [entryOffset, sectBase, sectLength, sectCount, imageLength] at hn ⊢ <;> omega

theorem length_putEntry {image entry : List Byte} {k : Sect} {n : Nat} (hn : n < sectCount k)
    (hentry : entry.length = sectLength k) (himage : image.length = imageLength) :
    (putEntry image k n entry).length = imageLength := by
  have := entryOffset_add_le hn
  simp only [putEntry, List.length_append, List.length_take, List.length_drop]
  omega

/-- A part of a list that another part is replaced beside, before it or after it. -/
theorem take_drop_replaced {l v : List Byte} {o m o' m' : Nat} (hv : v.length = m) (ho : o + m ≤ l.length)
    (hbeside : o' + m' ≤ o ∨ o + m ≤ o') :
    ((l.take o ++ v ++ l.drop (o + m)).drop o').take m' = (l.drop o').take m' := by
  have htake : (l.take o).length = o := by simp; omega
  rcases hbeside with h | h
  · rw [List.append_assoc, List.drop_append_of_le_length (by omega), List.take_append_of_le_length (by simp; omega),
      List.drop_take, List.take_take, Nat.min_eq_left (by omega)]
  · obtain ⟨d, rfl⟩ := Nat.exists_eq_add_of_le h
    have hlen : (l.take o ++ v).length = o + m := by simp [htake, hv]
    rw [List.drop_append, List.drop_of_length_le (by omega), hlen, List.nil_append, List.drop_drop,
      Nat.add_sub_cancel_left]

theorem entryAt_putEntry_of_beside {image entry : List Byte} {k k' : Sect} {n n' : Nat} (hn : n < sectCount k)
    (hentry : entry.length = sectLength k) (himage : image.length = imageLength)
    (h : entryOffset k' n' + sectLength k' ≤ entryOffset k n ∨ entryOffset k n + sectLength k ≤ entryOffset k' n') :
    entryAt (putEntry image k n entry) k' n' = entryAt image k' n' :=
  take_drop_replaced hentry (himage ▸ entryOffset_add_le hn) h

/-- A CLASS entry stands beside every other entry of the image (R183). -/
theorem classEntry_beside {k : Sect} {n m : Nat} (hm : m < 7) (hne : k = .cls → n ≠ m) :
    entryOffset .cls m + sectLength .cls ≤ entryOffset k n ∨ entryOffset k n + sectLength k ≤ entryOffset .cls m := by
  cases k with
  | cls =>
    have := hne rfl
    simp only [entryOffset, sectBase, sectLength]
    omega
  | _ =>
    simp only [entryOffset, sectBase, sectLength]
    omega

/-! ### The classes of an image that a write has changed -/

/-- The parameters of a class pass their cross-field checks (R23, Table 10.6). -/
def ParamsAgree (k : ClassParams) : Prop := k.clear < k.confirm ∧ k.clear < k.weight ∧ k.clear ≤ 254

theorem paramsAgree_of_checked {n : Nat} {entry : List Byte} (h : EntryChecked .cls n entry) :
    ParamsAgree (classOf entry) := by
  obtain ⟨-, hfields, hcross⟩ := h
  simp only [fieldsInRange, crossFields, Bool.and_eq_true, decide_eq_true_eq] at hfields hcross
  obtain ⟨-, ⟨⟨⟨⟨-, -⟩, hclear⟩, -⟩, -⟩, -⟩ := hfields
  exact ⟨hcross.1, hcross.2, hclear⟩

/-- The class of a CLASS entry of the image: C0 to C6; C7 has fixed parameters (R23). -/
theorem classParams_cases (c : FaultClass) :
    (∀ image, classParams image c = adoptionLapseParams) ∨
    (classCode c < 7 ∧ ∀ image, classParams image c = classOf (entryAt image .cls (classCode c))) := by
  cases c
  case adoptionLapse => exact .inl fun _ => rfl
  all_goals exact .inr ⟨by decide, fun _ => rfl⟩

/-- A checked entry leaves every class within its checks: the class it is of by its own, any other as it was. -/
theorem classesAgree_putEntry {image entry : List Byte} {k : Sect} {n : Nat} (himage : image.length = imageLength)
    (hchecked : EntryChecked k n entry) (hs : ∀ c, ParamsAgree (classParams image c)) (c : FaultClass) :
    ParamsAgree (classParams (putEntry image k n entry) c) := by
  have hlength := length_of_fieldsInRange hchecked.fields
  have hc := hs c
  rcases classParams_cases c with h | ⟨hcode, h⟩ <;> rw [h] at hc ⊢
  · exact hc
  · by_cases hsame : k = .cls ∧ n = classCode c
    · obtain ⟨rfl, rfl⟩ := hsame
      rw [entryAt_putEntry hlength (himage ▸ (Nat.le_add_right _ _).trans (entryOffset_add_le hchecked.index))]
      exact paramsAgree_of_checked hchecked
    · rw [entryAt_putEntry_of_beside hchecked.index hlength himage
        (classEntry_beside hcode fun hk hn => hsame ⟨hk, hn⟩)]
      exact hc

theorem acceptWrite_image (k : Sect) (n : Nat) (entry : List Byte) (s : State) :
    (acceptWrite k n entry s).osc.image = putEntry s.osc.image k n entry := by
  unfold acceptWrite afterWrite
  split
  · split <;> rfl
  all_goals simp

theorem factoryImage_length : factoryImage.length = imageLength := by decide +kernel

/-! ### The invariant -/

/-- The image has its length and its classes pass their checks. -/
def ImageAgrees (image : List Byte) : Prop := image.length = imageLength ∧ ∀ c, ParamsAgree (classParams image c)

theorem Kept.imageAgrees {i : Instr} {s t : State} (h : Kept i s t) (hi : isCorruption i = false)
    (hs : ImageAgrees s.osc.image) : ImageAgrees t.osc.image := by
  cases h with
  | tidy h => rwa [h.image]
  | write u k n entry before isConfig checked after =>
    rw [after.image, acceptWrite_image, before.image]
    exact ⟨length_putEntry checked.index (length_of_fieldsInRange checked.fields) hs.1,
      classesAgree_putEntry hs.1 checked hs.2⟩
  | reset image p m held h =>
    subst h
    rcases held with rfl | rfl
    · exact ⟨factoryImage_length, reset_classesAgree⟩
    · exact hs
  | corrupt h table => rw [hi] at h; cases h

/-- In a clean CONFIG there is no record whose score a write of the image could leave out of its class's thresholds. -/
theorem Kept.scores {i : Instr} {s t : State} (h : Kept i s t) (hi : isCorruption i = false) (hw : TableWellFormed s)
    (hclasses : ClassesAgree s) (hclean : ConfigIsClean s) (hs : SuspectScoresBetween s) :
    SuspectScoresBetween t ∧ TableWellFormed t := by
  cases h with
  | tidy h => exact ⟨h.scores hw hclasses hs, h.wellFormed hw⟩
  | write u k n entry before isConfig checked after =>
    have htable := table_of_write before after
    have hempty := (hclean (before.part ▸ isConfig)).1
    rw [SuspectScoresBetween, TableWellFormed, htable]
    exact ⟨fun x hx => absurd (hempty ▸ hx) List.not_mem_nil, hw⟩
  | reset image p m held h =>
    subst h
    exact ⟨fun x hx => absurd hx List.not_mem_nil, Nat.zero_le _, List.Pairwise.nil⟩
  | corrupt h table => rw [hi] at h; cases h

/-- A clean CONFIG has its health in step with its empty table. -/
theorem healthInStep_of_clean {s : State} (hw : TableWellFormed s) (hclean : ConfigIsClean s)
    (hp : s.osc.part = .config) : HealthInStep s := by
  obtain ⟨hempty, hin⟩ := hclean hp
  refine ⟨hw, hclean, (healthMatchesTable_iff s).mpr fun e => ?_⟩
  rw [hempty, hin e]
  exact healthFits_of_none (.inl rfl) fun d => confirmedIn_nil e d

/-- CONFIG is entered by a reset alone, which leaves it clean. -/
theorem Kept.configIsClean {i : Instr} {s t : State} (h : Kept i s t) (hi : isCorruption i = false)
    (hp : s.osc.part ≠ .config) : ConfigIsClean t := by
  cases h with
  | tidy h => exact fun ht => absurd (h.config ht) hp
  | write u k n entry before isConfig checked after => exact absurd (before.part ▸ isConfig) hp
  | reset image p m held h => subst h; exact (healthInStep_resetBlocks image p m s).2.1
  | corrupt h table => rw [hi] at h; cases h

theorem isCorruption_of_head {s : State} (h : ∀ k b, s.pending.head? ≠ some (.configurationImageCorruption k b))
    {i : Instr} (hi : s.pending.head? = some i) : isCorruption i = false := by
  cases i with
  | configurationImageCorruption k b => exact absurd hi (h k b)
  | _ => rfl

/-- Settles O51: a report scores within the thresholds or confirms, a decay stops at the clear threshold, and the
thresholds change in CONFIG alone, where the table is empty. -/
theorem stepKeepsSuspectScoresBetween : Obligations.StepKeepsSuspectScoresBetween := by
  unfold Obligations.StepKeepsSuspectScoresBetween
  rintro s t ⟨hlength, hclean, hclasses, hscores, hw⟩ hfront hstep
  have hclean' : ConfigIsClean t := by
    by_cases hp : s.osc.part = .config
    · exact (stepKeepsHealthInStepWithTheTable s t (healthInStep_of_clean hw hclean hp) hfront hstep).2.1
    · rcases step_kept hstep with rfl | ⟨i, u, hhead, hu, hkept⟩
      · exact hclean
      · exact hkept.configIsClean (isCorruption_of_head hfront hhead) (hu.part ▸ hp)
  rcases step_kept hstep with rfl | ⟨i, u, hhead, hu, hkept⟩
  · exact ⟨hlength, hclean, hclasses, hscores, hw⟩
  · have hi := isCorruption_of_head hfront hhead
    have front := Tidy.quiet hu
    obtain ⟨hlength', hclasses'⟩ := hkept.imageAgrees hi (hu.image ▸ (⟨hlength, hclasses⟩ : ImageAgrees s.osc.image))
    have hcleanu : ConfigIsClean u := fun hp => by
      rw [hu.table, hu.map]
      exact hclean (front.config hp)
    obtain ⟨hscores', hw'⟩ := hkept.scores hi (front.wellFormed hw) (classesAgree_of_image front.image hclasses) hcleanu
      (front.scores hw hclasses hscores)
    exact ⟨hlength', hclean', hclasses', hscores', hw'⟩

end Sys2Proof.Machine
end

section
/-! READ_FAULT and its bytes (O12). -/

namespace Sys2Proof.Machine

/-- The 24 bytes that READ_FAULT answers for a record (Table 11.6). -/
def faultBytes (count : Nat) (overflow : Bool) (x : FaultRecord) : List Byte :=
  [natByte count, flagByte (overflow :: recordFlags x)] ++ recordBytes x

/-- The 24 bytes that READ_FAULT answers for a position past the last record. -/
def noFaultBytes (count : Nat) (overflow : Bool) : List Byte :=
  [natByte count, flagByte [overflow]] ++ List.replicate 22 0#8

theorem readFault_of_lt {n : Byte} (h : 31 < n.toNat) (s : State) : readFault n s = refuse .range s := if_pos h

theorem readFault_none {n : Byte} {s : State} (hn : n.toNat ≤ 31) (h : s.table.records[n.toNat]? = none) :
    readFault n s = accept (noFaultBytes s.table.records.length s.table.overflow) s := by
  simp only [readFault, Nat.not_lt.mpr hn, h, if_false]
  rfl

theorem readFault_some {n : Byte} {s : State} {x : FaultRecord} (hn : n.toNat ≤ 31)
    (h : s.table.records[n.toNat]? = some x) :
    readFault n s = accept (faultBytes s.table.records.length s.table.overflow x) s := by
  simp only [readFault, Nat.not_lt.mpr hn, h, if_false]
  rfl

/-- Past the last record every byte but the count and the overflow flag is 0. -/
theorem noFaultBytes_shows (count : Nat) (overflow : Bool) :
    let b := noFaultBytes count overflow
    (byteAt b 1).getLsbD 0 = overflow ∧ (byteAt b 1).extractLsb' 1 7 = 0#7 ∧ ∀ k, 2 ≤ k → byteAt b k = 0#8 := by
  have flags : byteAt (noFaultBytes count overflow) 1 = flagByte [overflow] := rfl
  refine ⟨?_, ?_, fun k hk => ?_⟩
  · rw [flags, flagByte_getLsbD]; rfl
  · rw [flags, flagByte_singleton]
    cases overflow <;> rfl
  · obtain ⟨d, rfl⟩ := Nat.exists_eq_add_of_le' hk
    show (List.replicate 22 0#8).getD d 0#8 = 0#8
    rw [List.getD_eq_getElem?_getD, List.getElem?_replicate]
    split <;> rfl

/-- The flags of a record, bit by bit (Table 11.6, byte 1). -/
theorem recordFlags_shows (overflow : Bool) (x : FaultRecord) :
    let b := flagByte (overflow :: recordFlags x)
    b.getLsbD 0 = overflow ∧ b.getLsbD 1 = true ∧ b.getLsbD 2 = (x.state == .confirmed) ∧
    b.getLsbD 3 = x.confirmedAt.isSome ∧ b.getLsbD 4 = x.detail.isSome ∧ b.getLsbD 5 = x.line.isSome ∧
    b.getLsbD 6 = x.decay.isSome ∧ b.getLsbD 7 = false := by
  simp only [flagByte_getLsbD, recordFlags]
  exact ⟨rfl, rfl, rfl, rfl, rfl, rfl, rfl, rfl⟩

/-- The origins of a record, bit by bit (Table 11.6, byte 4). -/
theorem originsByte_shows (v : OriginSet) :
    (originsByte v).getLsbD 0 = v.front ∧ (originsByte v).getLsbD 1 = v.rear ∧ (originsByte v).getLsbD 2 = v.pack ∧
    (originsByte v).getLsbD 3 = v.ride ∧ (originsByte v).getLsbD 4 = v.lines ∧
    (originsByte v).getLsbD 5 = v.monitor ∧ (originsByte v).extractLsb' 6 2 = 0#2 := by
  simp only [originsByte, flagByte_getLsbD]
  refine ⟨rfl, rfl, rfl, rfl, rfl, rfl, BitVec.eq_of_getLsbD_eq fun i hi => ?_⟩
  simp [flagByte_getLsbD]

theorem lineByte_shows (l : Option FaultLine) :
    natByte ((l.map lineCode).getD 0) = (match l with | none => 0#8 | some l => BitVec.ofNat 8 (lineCode l)) := by
  cases l <;> rfl

/-- Settles O12: RANGE above 31, and the bytes of the record at the position, or of none. -/
theorem readFaultShowsTheRecord : Obligations.ReadFaultShowsTheRecord := by
  unfold Obligations.ReadFaultShowsTheRecord
  intro p n s hL r
  refine ⟨fun hn => answered_of_act hL rfl (by simp) rfl (readFault_of_lt hn r), fun hn => ?_⟩
  cases hx : s.table.records[n.toNat]? with
  | none =>
    obtain ⟨t, ht, ha⟩ := answered_of_act (i := .readFault p n) hL rfl (by simp) rfl (readFault_none (s := r) hn hx)
    obtain ⟨hoverflow, hflags, hzeros⟩ := noFaultBytes_shows s.table.records.length s.table.overflow
    exact ⟨_, t, ht, ha, rfl, rfl, hoverflow, fun _ => ⟨hflags, hzeros⟩, fun x hsome => by cases hsome⟩
  | some x =>
    obtain ⟨t, ht, ha⟩ := answered_of_act (i := .readFault p n) hL rfl (by simp) rfl (readFault_some (s := r) hn hx)
    obtain ⟨hoverflow, h1, h2, h3, h4, h5, h6, h7⟩ := recordFlags_shows s.table.overflow x
    obtain ⟨o0, o1, o2, o3, o4, o5, o6⟩ := originsByte_shows x.origins
    refine ⟨_, t, ht, ha, rfl, rfl, hoverflow, fun hnone => (by cases hnone), fun y hy => ?_⟩
    obtain rfl := Option.some.inj hy
    exact ⟨h1, h2, h3, h4, h5, h6, h7, nibbles_high _ _, nibbles_low _ _, rfl, o0, o1, o2, o3, o4, o5, o6,
      high_append_low_ofNat _, byte_append_uptimeBytes _, byte_append_uptimeBytes _, byte_append_uptimeBytes _,
      byte_append_halfBytes _, lineByte_shows _, high_append_low_ofNat _⟩

end Sys2Proof.Machine
end

section
/-! The start-vote reports at the end of the start window (O24), and the decay of a SUSPECT record (O30). -/

namespace Sys2Proof.Machine

/-! ### The start vote -/

/-- The start-vote report of a port that has not started; none of one that has (R170). -/
def voteOf (started : PortSet) (p : Port) (s : State) : State :=
  if started.get p then s else handReport (startVoteReport p) s

theorem startVoteReports_eq (s : State) :
    startVoteReports s =
      voteOf s.osc.started .ride (voteOf s.osc.started .pack
        (voteOf s.osc.started .rear (voteOf s.osc.started .front s))) := by
  have hvote : (fun u p => if (!s.osc.started.get p) = true then handReport (startVoteReport p) u else u) =
      fun u p => voteOf s.osc.started p u := by
    funext u p
    cases h : s.osc.started.get p <;> simp [voteOf, h]
  unfold startVoteReports
  rw [List.foldl_filter, hvote]
  rfl

/-- Settles O24: the fold over the ports that have not started, port by port, and RUN entry behind it. -/
theorem startWindowExpiryEntersRun : Obligations.StartWindowExpiryEntersRun := by
  unfold Obligations.StartWindowExpiryEntersRun
  intro s hheld hpart hwindow vote
  have htaken : startWindowExpiry s = runEntry (startVoteReports s) := by
    simp [startWindowExpiry, hpart, hwindow, ranOut]
  show Host.Outcome.next (unlessHeld startWindowExpiry s) = _
  rw [unlessHeld, hheld, if_neg Bool.false_ne_true, htaken, startVoteReports_eq]
  rfl

/-! ### The decay of a record -/

/-- With a table that is well formed, a record of the list is the one that is found for its pair (R20). -/
theorem findRecord_of_mem {s : State} (hw : TableWellFormed s) {x : FaultRecord} (hx : x ∈ s.table.records) :
    findRecord s.table.records x.element x.cls = some x := by
  have hpair : ofPair x.element x.cls x = true := ofPair_iff.mpr ⟨rfl, rfl⟩
  obtain ⟨y, hy⟩ := Option.isSome_iff_exists.mp (List.find?_isSome.mpr ⟨x, hx, hpair⟩)
  have hxy : x = y := (ofPair_iff_eq_found hw hy hx).mp hpair
  exact hy.trans (congrArg some hxy.symm)

/-- In a list without two records of one pair, taking the first of a pair out leaves those that are not of it. -/
theorem eraseP_ofPair_eq_filter {rs : List FaultRecord} (e : Element) (c : FaultClass)
    (hrs : rs.Pairwise fun x y => ¬(x.element = y.element ∧ x.cls = y.cls)) :
    rs.eraseP (ofPair e c) = rs.filter fun x => !ofPair e c x := by
  induction rs with
  | nil => rfl
  | cons x rs ih =>
    obtain ⟨hx, hrest⟩ := List.pairwise_cons.mp hrs
    cases hp : ofPair e c x with
    | false => simp [hp, ih hrest]
    | true =>
      have hothers : ∀ y ∈ rs, (!ofPair e c y) = true := by
        intro y hy
        obtain ⟨rfl, rfl⟩ := ofPair_iff.mp hp
        have hne := hx y hy
        simp only [Bool.not_eq_true', Bool.eq_false_iff, Ne, ofPair_iff]
        exact fun h => hne ⟨h.1.symm, h.2.symm⟩
      simp [hp, List.filter_eq_self.mpr hothers]

/-- What a decay expiry does to the record that it finds (R36). -/
theorem decayExpiry_of_due {e : Element} {c : FaultClass} {x : FaultRecord} {s : State} (hrun : Running s)
    (hx : findRecord s.table.records e c = some x) (hs : x.state = .suspect) (hdue : x.decay = some 0) :
    decayExpiry e c s = takeDecay e c x s := by
  simp [decayExpiry, hx, (isRunning_iff s).mpr hrun, ranOut, hdue, hs]

/-- Settles O30: the one record of the pair is decayed in its place, or is the one that leaves. -/
theorem decayLowersTheScore : Obligations.DecayLowersTheScore := by
  unfold Obligations.DecayLowersTheScore
  rintro _ _ s x hheld hrun hw hx rfl rfl hs hdue k same
  have hfound := findRecord_of_mem hw hx
  show Host.Outcome.next (unlessHeld (decayExpiry x.element x.cls) s) = _
  rw [unlessHeld, hheld, if_neg Bool.false_ne_true, decayExpiry_of_due hrun hfound hs hdue, takeDecay]
  by_cases hlow : x.score - 1 ≤ k.clear
  · rw [if_pos hlow, if_neg (Nat.not_lt.mpr hlow), removeRecord, eraseP_ofPair_eq_filter _ _ hw.2]
    rfl
  · have hmap : (s.table.records.map fun y => if ofPair x.element x.cls y then decayRecord k y else y) =
        s.table.records.map fun y =>
          if same y then { y with score := x.score - 1, decay := some k.decay } else y :=
      List.map_congr_left fun y hy => by
        cases hp : ofPair x.element x.cls y with
        | true =>
          obtain rfl := (ofPair_iff_eq_found hw hfound hy).mp hp
          rw [show same y = true from hp]
          rfl
        | false =>
          rw [show same y = false from hp]
          rfl
    rw [if_neg hlow, if_pos (Nat.lt_of_not_le hlow), onRecord, hmap]

end Sys2Proof.Machine
end

section
/-! Reports that confirm nothing: scored in the record of their pair or in a new one (O40), after an eviction, or
without room (O42). -/

namespace Sys2Proof.Machine

/-- No condition of R31 holds. -/
theorem shouldConfirm_eq_false_iff {k : ClassParams} {health : PerElement Health} {x : FaultRecord} :
    shouldConfirm k health x = false ↔
      x.score < k.confirm ∧ (k.corroboration < 2 ∨ x.origins.count < k.corroboration) ∧
      health.get x.element ≠ .trial := by
  simp [shouldConfirm, imp_iff_not_or, and_assoc]

/-- A report with room that confirms nothing is scored, and that is all it does (R26, R27, R31). -/
theorem handReport_of_unconfirmed {r : FaultReport} {s : State} (hrun : Running s) (hroom : RoomFor r s)
    (h : (scoredRecord r s).state = .suspect →
      shouldConfirm (classParams s.osc.image r.cls) s.map.health (scoredRecord r s) = false) :
    handReport r s = scored r s := by
  rw [handReport_of_running hrun, takeReport_of_room hroom, testRecord_scored, if_neg]
  rintro ⟨hs, hc⟩
  rw [h hs] at hc
  cases hc

theorem scoredRecord_of_found {r : FaultReport} {s : State} {x : FaultRecord}
    (hf : findRecord s.table.records r.element r.cls = some x) :
    scoredRecord r s = joinRecord (classParams s.osc.image r.cls) r s.time.uptime x := by
  simp only [scoredRecord, hf]

theorem scoredRecord_of_none {r : FaultReport} {s : State} (hf : findRecord s.table.records r.element r.cls = none) :
    scoredRecord r s = newRecord (classParams s.osc.image r.cls) r s.time.uptime := by
  simp only [scoredRecord, hf]

/-- A report joins the one record of its pair, in its place (R26). -/
theorem scored_of_found {r : FaultReport} {s : State} (hw : TableWellFormed s) {x : FaultRecord}
    (hf : findRecord s.table.records r.element r.cls = some x) :
    scored r s = { s with table.records := s.table.records.map fun y =>
      if y = x then joinRecord (classParams s.osc.image r.cls) r s.time.uptime x else y } := by
  have hmap : scoredRecords r s = s.table.records.map fun y =>
      if y = x then joinRecord (classParams s.osc.image r.cls) r s.time.uptime x else y := by
    simp only [scoredRecords, hf]
    refine List.map_congr_left fun y hy => ?_
    have hiff := ofPair_iff_eq_found hw hf hy
    by_cases hyx : y = x
    · rw [if_pos (hiff.mpr hyx), if_pos hyx, hyx]
    · rw [if_neg fun hp => hyx (hiff.mp hp), if_neg hyx]
  rw [scored, hmap]

/-- A report of a pair without a record makes a new one at the end of the list, after an eviction where it is full. -/
theorem scored_of_none {r : FaultReport} {s : State} (hf : findRecord s.table.records r.element r.cls = none) :
    scored r s = { s with table.records :=
      (if s.table.records.length < 32 then s.table.records else evictLowest s.table.records) ++
        [newRecord (classParams s.osc.image r.cls) r s.time.uptime] } := by
  simp only [scored, scoredRecords, hf]

/-- A record that an ordinary report has joined, but for its decay timer: steps 1 to 5 of R26, as O40 says them. -/
def joined (k : ClassParams) (r : FaultReport) (now : Uptime) (x : FaultRecord) : FaultRecord :=
  { x with
    score := min 255 (x.score + if r.origin = .lines then k.confirm else k.weight)
    origins := x.origins.insert r.origin
    reports := min 65535 (x.reports + 1)
    lastAt := now
    detail := if r.detail = none then x.detail else r.detail
    line := if r.origin = .lines ∧ x.line = none then r.line else x.line }

theorem joinRecord_of_confirmed {x : FaultRecord} (hs : x.state = .confirmed) (k : ClassParams) (r : FaultReport)
    (now : Uptime) : joinRecord k r now x = joined k r now x := by
  cases hd : r.detail <;> simp [joinRecord, joined, scoreAfter, reportWeight, hs, hd]

theorem joinRecord_of_suspect {x : FaultRecord} {r : FaultReport} (hs : x.state = .suspect) (hv : r.startVote = false)
    (k : ClassParams) (now : Uptime) : joinRecord k r now x = { joined k r now x with decay := some k.decay } := by
  cases hd : r.detail <;> simp [joinRecord, joined, scoreAfter, reportWeight, hs, hv, hd]

/-- Settles O40: in each case the report has room and confirms nothing, so that it is scored and does no more. -/
theorem reportsAreScored : Obligations.ReportsAreScored := by
  unfold Obligations.ReportsAreScored
  intro r s k weight joinedTo quiet
  have room : ∀ {x}, recordOf s r.element r.cls = some x → RoomFor r s := fun h =>
    .inl (by rw [h]; exact Option.some_ne_none _)
  refine ⟨fun h => handReport_of_not_running h r, fun x hrun hw hx hs => ?_, fun x hrun hw hv hx hs hq => ?_,
    fun x hrun hv hx hlength hnew hq => ?_⟩
  · have hjoin : joinRecord k r s.time.uptime x = joinedTo x := joinRecord_of_confirmed hs k r _
    have hstate : (scoredRecord r s).state = .confirmed := by rw [scoredRecord_of_found hx]; exact hs
    rw [handReport_of_unconfirmed hrun (room hx) fun h => (by rw [hstate] at h; cases h), scored_of_found hw hx, hjoin]
  · have hjoin : joinRecord k r s.time.uptime x = { joinedTo x with decay := some k.decay } :=
      joinRecord_of_suspect hs hv k _
    have helement : x.element = r.element := (ofPair_iff.mp (List.find?_some hx)).1
    have htest : shouldConfirm k s.map.health (scoredRecord r s) = false := by
      rw [scoredRecord_of_found hx, hjoin, shouldConfirm_eq_false_iff, helement]
      exact hq
    rw [handReport_of_unconfirmed hrun (room hx) fun _ => htest, scored_of_found hw hx, hjoin]
  · have hrecord : newRecord k r s.time.uptime = x := by
      rw [hnew]
      simp [newRecord, hv, reportWeight, weight]
    have htest : shouldConfirm k s.map.health (scoredRecord r s) = false := by
      rw [scoredRecord_of_none hx, hrecord, shouldConfirm_eq_false_iff, show x.element = r.element by rw [hnew]]
      exact hq
    rw [handReport_of_unconfirmed hrun (.inr (.inl hlength)) fun _ => htest, scored_of_none hx, if_pos hlength, hrecord]

/-! ### A full table -/

theorem lowestSuspect_le {rs : List FaultRecord} {m : Nat} (h : lowestSuspect rs = some m) {y : FaultRecord}
    (hy : y ∈ rs) (hs : isSuspect y = true) : m ≤ y.score := by
  induction rs generalizing m with
  | nil => cases hy
  | cons x rs ih =>
    cases hl : lowestSuspect rs with
    | none =>
      rcases List.mem_cons.mp hy with rfl | hy
      · simp only [lowestSuspect, hl, hs, if_true, Option.some.injEq] at h
        exact h.ge
      · have := lowestSuspect_isSome ⟨y, hy, hs⟩
        rw [hl] at this
        cases this
    | some n =>
      rcases List.mem_cons.mp hy with rfl | hy
      · simp only [lowestSuspect, hl, hs, if_true, Option.some.injEq] at h
        omega
      · have hn := ih hl hy
        cases hx : isSuspect x <;> simp [lowestSuspect, hl, hx] at h <;> omega

/-- An eviction takes out the first of the SUSPECT records of lowest score (R28). -/
theorem evictLowest_first {rs : List FaultRecord} (h : ∃ x ∈ rs, x.state = .suspect) :
    ∃ before x after, rs = before ++ x :: after ∧ evictLowest rs = before ++ after ∧ x.state = .suspect ∧
      (∀ y ∈ before, y.state = .suspect → x.score < y.score) ∧
      (∀ y ∈ after, y.state = .suspect → x.score ≤ y.score) := by
  have suspect : ∀ {y : FaultRecord}, y.state = .suspect → isSuspect y = true := fun h => by simp [isSuspect, h]
  obtain ⟨z, hz, hzs⟩ := h
  obtain ⟨m, hm⟩ := Option.isSome_iff_exists.mp (lowestSuspect_isSome ⟨z, hz, suspect hzs⟩)
  obtain ⟨y, hy, hys, hym⟩ := lowestSuspect_mem hm
  obtain ⟨x, before, after, hbefore, hx, hrs, hevict⟩ := List.exists_of_eraseP
    (p := fun x => isSuspect x && x.score == m) hy (by simp [hys, hym])
  have hxm : x.state = .suspect ∧ x.score = m := by simpa [isSuspect] using hx
  have lowest : ∀ y ∈ rs, y.state = .suspect → m ≤ y.score := fun y hy hs => lowestSuspect_le hm hy (suspect hs)
  refine ⟨before, x, after, hrs, by simp only [evictLowest, hm, hevict], hxm.1, fun y hy hs => ?_, fun y hy hs => ?_⟩
  · have hle := lowest y (by simp [hrs, hy]) hs
    have hne : y.score ≠ m := fun hm => hbefore y hy (by simp [suspect hs, hm])
    omega
  · have hle := lowest y (by simp [hrs, hy]) hs
    omega

theorem leaveUnrecorded_of_not_trial {r : FaultReport} {s : State} (h : s.map.health.get r.element ≠ .trial) :
    leaveUnrecorded r s = if s.table.overflow then s else recompute { s with table.overflow := true } := by
  rw [leaveUnrecorded_eq, if_neg h]
  rfl

/-- Settles O42: the eviction, a report that is scored behind one, and a report that is left without a record. -/
theorem fullTablesEvictOrOverflow : Obligations.FullTablesEvictOrOverflow := by
  unfold Obligations.FullTablesEvictOrOverflow
  refine ⟨fun rs h => evictLowest_first h, fun r s hrun hf hlength => ⟨?_, fun hall htrial => ?_⟩⟩
  · rintro x hsuspect - - rfl htest
    have hnone : findRecord s.table.records r.element r.cls = none := hf
    rw [handReport_of_unconfirmed hrun (.inr (.inr hsuspect)) fun _ => by rwa [scoredRecord_of_none hnone],
      scored_of_none hnone, if_neg (by omega)]
  · have hroom : ¬RoomFor r s := by
      rintro (h | h | ⟨x, hx, hs⟩)
      · exact h hf
      · omega
      · rw [hall x hx] at hs
        cases hs
    rw [handReport_of_running hrun, takeReport_of_no_room hroom, leaveUnrecorded_of_not_trial htrial]

end Sys2Proof.Machine
end

section
/-! FAILSAFE freezes the part (O57, R111): what a command there may change, and that each changes no more. -/

namespace Sys2Proof.Machine

/-! ### What FAILSAFE leaves free -/

/-- Nothing has changed but the time, the ports, the mismatch counters, the service arm, the SVC level and the queue. -/
def FrozenBut (s t : State) : Prop :=
  t = { s with
    time := t.time
    ports := t.ports
    permit.mismatch := t.permit.mismatch
    osc.arm := t.osc.arm
    osc.svc := t.osc.svc
    pending := t.pending }

theorem FrozenBut.trans {s t u : State} (h : FrozenBut s t) (k : FrozenBut t u) : FrozenBut s u :=
  Eq.trans k (by rw [h])

theorem FrozenBut.part {s t : State} (h : FrozenBut s t) : t.osc.part = s.osc.part := by rw [h]

theorem frozenBut_disarmFrom (p : Port) (s : State) : FrozenBut s (disarmFrom p s) := by
  unfold disarmFrom
  split <;> rfl

/-- A move that changes no frozen part where it starts in FAILSAFE. -/
def Freezes (s t : State) : Prop := s.osc.part = .failsafe → FrozenBut s t

theorem isRunning_of_failsafe {s : State} (h : s.osc.part = .failsafe) : isRunning s = false := by simp [isRunning, h]

theorem inRun_of_failsafe {s : State} (h : s.osc.part = .failsafe) : inRun s = false := by simp [inRun, h]

theorem freezingMoves : LinkMoves Freezes where
  refl _ _ := rfl
  trans h k hp := (h hp).trans (k ((h hp).part.trans hp))
  port _ _ _ _ := rfl
  disarm p s _ := frozenBut_disarmFrom p s
  report {r} _ s hp := by
    rw [handReport, isRunning_of_failsafe hp]
    rfl

/-! ### Requests in FAILSAFE -/

section
variable {s : State} (hp : s.osc.part = .failsafe)
include hp

theorem checkIn_of_failsafe (p : Port) : checkIn p s = refuse .failsafe s := by simp [checkIn, hp]

theorem report_of_failsafe (p : Port) (e c : Byte) (detail : Option Half) :
    report p e c detail s = refuse .failsafe s := by simp [report, notRunning, hp]

theorem setFloor_of_failsafe (p : Port) (profile : Byte) : setFloor p profile s = refuse .failsafe s := by
  simp [setFloor, notRunning, hp]

theorem adopt_of_failsafe (p : Port) (generation : Half) : adopt p generation s = refuse .failsafe s := by
  simp [adopt, hp]

theorem release_of_failsafe (p : Port) (element : Byte) : release p element s = refuse .failsafe s := by
  simp [release, hp]

theorem askedBallot_of_failsafe (p : Port) (element : Byte) : askedBallot p element s = .error .failsafe := by
  simp [askedBallot, hp]

theorem consent_of_failsafe (p : Port) (element : Byte) : consent p element s = refuse .failsafe s := by
  simp [consent, askedBallot_of_failsafe hp]

theorem veto_of_failsafe (p : Port) (element : Byte) : veto p element s = refuse .failsafe s := by
  simp [veto, askedBallot_of_failsafe hp]

theorem start_of_failsafe (p : Port) (named : Half) : start p named s = refuse .failsafe s := by simp [start, hp]

theorem writeConfig_of_failsafe (p : Port) (k n : Byte) (entry : List Byte) :
    writeConfig p k n entry s = refuse .failsafe s := by simp [writeConfig, hp]

theorem serviceArm_of_failsafe (p : Port) : serviceArm p s = refuse .failsafe s := by simp [serviceArm, hp]

theorem serviceClear_of_failsafe (p : Port) (which : Byte) : serviceClear p which s = refuse .failsafe s := by
  simp [serviceClear, hp]

/-! ### Timers and samples in FAILSAFE -/

theorem decayExpiry_of_failsafe (e : Element) (c : FaultClass) : decayExpiry e c s = s := by
  unfold decayExpiry
  split <;> simp [isRunning_of_failsafe hp]

theorem checkInDeadlineExpiry_of_failsafe (p : Port) : checkInDeadlineExpiry p s = s := by
  simp [checkInDeadlineExpiry, isRunning_of_failsafe hp]

theorem dwellExpiry_of_failsafe : dwellExpiry s = s := by simp [dwellExpiry, inRun_of_failsafe hp]

theorem adoptionDeadlineExpiry_of_failsafe (d : DrivePort) : adoptionDeadlineExpiry d s = s := by
  simp [adoptionDeadlineExpiry, inRun_of_failsafe hp]

theorem ballotWindowExpiry_of_failsafe : ballotWindowExpiry s = s := by
  unfold ballotWindowExpiry
  split <;> simp [inRun_of_failsafe hp]

theorem trialExpiry_of_failsafe (slot : TrialSlot) : trialExpiry slot s = s := by
  unfold trialExpiry
  split <;> simp [inRun_of_failsafe hp]

theorem startWindowExpiry_of_failsafe : startWindowExpiry s = s := by simp [startWindowExpiry, hp]

theorem integrityCheckExpiry_of_failsafe : integrityCheckExpiry s = s := by
  simp [integrityCheckExpiry, isRunning_of_failsafe hp]

theorem sampleLine_of_failsafe (l : FaultLine) (high : Bool) : sampleLine l high s = s := by
  simp [sampleLine, lineSampled, isRunning_of_failsafe hp]

theorem lineQualify_of_failsafe (l : FaultLine) : lineQualify l s = s := by
  simp [lineQualify, sampleLine_of_failsafe hp]

theorem lineUnqualify_of_failsafe (l : FaultLine) : lineUnqualify l s = s := by
  simp [lineUnqualify, sampleLine_of_failsafe hp]

theorem lineEdge_of_failsafe (l : FaultLine) : lineEdge l s = s := by
  simp [lineEdge, sampleLine_of_failsafe hp]

/-- A readback sample counts its mismatches, and its FAILSAFE requests have no effect (R106, R108). -/
theorem sampleReadback_frozen (first : DrivePort) (v : Readback) : FrozenBut s (sampleReadback first v s) := by
  rcases sampleReadback_cases first v s with h | ⟨d, -, h⟩ <;> rw [h]
  · rfl
  · rw [requestFailsafe_of_failsafe (s := countMismatches v s) hp]
    rfl

theorem readbackMismatch_frozen (m : ThirdMismatch) : FrozenBut s (readbackMismatch m s) := by
  unfold readbackMismatch
  split
  · exact sampleReadback_frozen hp _ _
  · rfl

theorem tick_of_failsafe : tick s = tickUptime s := if_pos hp

end

/-! ### Every command in FAILSAFE -/

theorem exec_freezes {i : Instr} {s t : State} (hp : s.osc.part = .failsafe) (h : exec i s = .next t)
    (hr : isReset i = false) (hc : isCorruption i = false) : FrozenBut s t := by
  have request : ∀ {p : Port} {code : Byte} {payload : List Byte} {disarms : Bool} {act : State → Taken},
      (∀ u, u.osc.part = .failsafe → FrozenBut u (act u).state) →
      FrozenBut s (takeRequest p code payload disarms act s) := fun h => freezingMoves.takeRequest h s hp
  have refused : ∀ {p : Port} {code : Byte} {payload : List Byte} {disarms : Bool} {act : State → Taken},
      (∀ {u}, u.osc.part = .failsafe → act u = refuse .failsafe u) →
      FrozenBut s (takeRequest p code payload disarms act s) :=
    fun h => request fun u hu => by rw [h hu]; rfl
  have reads : ∀ {p : Port} {code : Byte} {payload : List Byte} {disarms : Bool} {act : State → Taken},
      (∀ u, (act u).state = u) → FrozenBut s (takeRequest p code payload disarms act s) :=
    fun h => request fun u _ => by rw [h u]; rfl
  have event : ∀ {f : State → State}, FrozenBut s (f s) → FrozenBut s (unlessHeld f s) :=
    fun h => freezingMoves.unlessHeld s (fun _ => h) hp
  have idle : ∀ {f : State → State}, f s = s → FrozenBut s (unlessHeld f s) :=
    fun h => event (by rw [h]; rfl)
  cases i <;> obtain rfl := Host.Outcome.next.inj h
  case readStatus p page => exact reads (readStatus_state p page)
  case readEnvelope p => exact reads fun _ => rfl
  case readElement p n => exact reads (readElement_state n)
  case readFault p n => exact reads (readFault_state n)
  case readRetained p n => exact reads (readRetained_state n)
  case readNotice p => exact request fun _ _ => rfl
  case readConfig p k n => exact reads (readConfig_state k n)
  case checkIn p => exact refused fun hu => checkIn_of_failsafe hu p
  case report p e c detail => exact refused fun hu => report_of_failsafe hu p e c detail
  case setFloor p profile => exact refused fun hu => setFloor_of_failsafe hu p profile
  case adopt p generation => exact refused fun hu => adopt_of_failsafe hu p generation
  case release p element => exact refused fun hu => release_of_failsafe hu p element
  case consent p element => exact refused fun hu => consent_of_failsafe hu p element
  case veto p element => exact refused fun hu => veto_of_failsafe hu p element
  case start p named => exact refused fun hu => start_of_failsafe hu p named
  case writeConfig p k n entry => exact refused fun hu => writeConfig_of_failsafe hu p k n entry
  case serviceArm p => exact refused fun hu => serviceArm_of_failsafe hu p
  case serviceClear p which => exact refused fun hu => serviceClear_of_failsafe hu p which
  case unknownRequest p code payload => exact freezingMoves.unknownRequest p code payload s hp
  case frameDiscard p kind => exact event (freezingMoves.frameDiscard p kind s hp)
  case gapDiscard p => exact event (freezingMoves.gapDiscard p s hp)
  case replyComplete p => exact event (freezingMoves.endReply p s hp)
  case powerOnReset a b => cases hr
  case keyCycleReset => cases hr
  case resetEnd => split <;> rfl
  case decayExpiry e c => exact idle (decayExpiry_of_failsafe hp e c)
  case checkInDeadlineExpiry p => exact idle (checkInDeadlineExpiry_of_failsafe hp p)
  case dwellExpiry => exact idle (dwellExpiry_of_failsafe hp)
  case adoptionDeadlineExpiry d => exact idle (adoptionDeadlineExpiry_of_failsafe hp d)
  case ballotWindowExpiry => exact idle (ballotWindowExpiry_of_failsafe hp)
  case trialExpiry slot => exact idle (trialExpiry_of_failsafe hp slot)
  case startWindowExpiry => exact idle (startWindowExpiry_of_failsafe hp)
  case integrityCheckExpiry => exact idle (integrityCheckExpiry_of_failsafe hp)
  case lineQualify l => exact idle (lineQualify_of_failsafe hp l)
  case lineUnqualify l => exact idle (lineUnqualify_of_failsafe hp l)
  case lineEdge l => exact idle (lineEdge_of_failsafe hp l)
  case readbackMismatch m => exact event (readbackMismatch_frozen hp m)
  case svcDeasserted => exact event rfl
  case lineSample l high => exact idle (sampleLine_of_failsafe hp l high)
  case readbackSample first levels => exact event (sampleReadback_frozen hp first levels)
  case svcAsserted => exact event rfl
  case millisecondTick => exact event (by rw [tick_of_failsafe hp]; rfl)
  case configurationImageCorruption k b => cases hc
  case frameStart p b => exact event (freezingMoves.startFrame p b s hp)

/-- A corruption changes the image alone (R167). -/
theorem exec_corruption {i : Instr} {s t : State} (h : exec i s = .next t) (hc : isCorruption i = true) :
    t = { s with osc.image := t.osc.image } := by
  cases i with
  | configurationImageCorruption k b =>
    obtain rfl := Host.Outcome.next.inj h
    unfold unlessHeld corruptImage
    split_ifs <;> rfl
  | _ => cases hc

/-- Settles O57: a corruption changes the image alone, and any other command but a reset what FAILSAFE leaves free. -/
theorem failsafeFreezesThePart : Obligations.FailsafeFreezesThePart := by
  unfold Obligations.FailsafeFreezesThePart
  intro i s t hp h hr
  cases hc : isCorruption i with
  | true =>
    rw [exec_corruption h hc]
    exact ⟨rfl, rfl, rfl, rfl, rfl, rfl, rfl, rfl, hp, rfl, rfl, rfl, rfl, rfl, rfl, nofun⟩
  | false =>
    rw [exec_freezes hp h hr hc]
    exact ⟨rfl, rfl, rfl, rfl, rfl, rfl, rfl, rfl, hp, rfl, rfl, rfl, rfl, rfl, rfl, fun _ => rfl⟩

end Sys2Proof.Machine
end

section
/-! CHECK_IN and the expiry of a check-in deadline (O15), and REPORT with its checks (O16). -/

namespace Sys2Proof.Machine

/-- An event of the line, a timer or a sample is taken while the part is not held in reset. -/
theorem next_unlessHeld {f : State → State} {s t : State} (hheld : s.time.held = false) (ht : f s = t) :
    (Host.Outcome.next (unlessHeld f s) : Host.Outcome State Fault Refusal) = .next t := by
  rw [unlessHeld, hheld, if_neg Bool.false_ne_true, ht]

/-! ### CHECK_IN -/

/-- Outside FAILSAFE a CHECK_IN is accepted; it loads the deadline of a supervised port alone (R59). -/
theorem checkIn_of_not_failsafe {p : Port} {s : State} (hp : s.osc.part ≠ .failsafe) :
    checkIn p s = accept []
      { s with contact := if s.contact.get p = none then s.contact
          else s.contact.set p (some (checkInValue s.osc.image p)) } := by
  unfold checkIn
  rw [if_neg hp]
  cases hc : s.contact.get p with
  | none => simp
  | some n => simp [setContact]

/-- A check-in deadline that has run out in STARTING or RUN is loaded again before its report is handed over (R60). -/
theorem checkInDeadlineExpiry_of_due {p : Port} {s : State} (hrun : Running s) (hdue : s.contact.get p = some 0) :
    checkInDeadlineExpiry p s = handReport (byMonitor (controllerOf p) .lossOfContact)
      { s with contact := s.contact.set p (some (checkInValue s.osc.image p)) } :=
  if_pos (by simp [(isRunning_iff s).mpr hrun, ranOut, hdue])

/-- Settles O15: the meaning of CHECK_IN inside and outside FAILSAFE, and of an expiry that is due. -/
theorem checkInLoadsTheDeadline : Obligations.CheckInLoadsTheDeadline := by
  unfold Obligations.CheckInLoadsTheDeadline
  intro p s
  refine ⟨fun hL hp => ?_, fun hL hp => ?_, fun hheld hrun hdue => ?_⟩
  · exact answered_of_act hL rfl (by simp) rfl (checkIn_of_not_failsafe (s := received p 0x20#8 [] s) hp)
  · exact refused_of_act hL rfl rfl rfl (by simp) rfl (checkIn_of_failsafe (s := received p 0x20#8 [] s) hp p)
  · exact next_unlessHeld hheld (checkInDeadlineExpiry_of_due hrun hdue)

/-! ### REPORT -/

theorem requestOf_report (p : Port) (e c : Byte) (detail : Option Half) :
    requestOf (.report p e c detail) = some (0x21#8, reportPayload e c detail) := by cases detail <;> rfl

theorem reportPayload_fits (e c : Byte) (detail : Option Half) :
    (reportPayload e c detail).length ≤ 24 ∧ lengthAllowed 0x21#8 (reportPayload e c detail).length = true := by
  cases detail <;> exact ⟨by simp [reportPayload, halfBytes], rfl⟩

theorem report_of_config {s : State} (hp : s.osc.part = .config) (p : Port) (e c : Byte) (detail : Option Half) :
    report p e c detail s = refuse .notRunning s := by simp [report, notRunning, hp]

section
variable {p : Port} {eb cb : Byte} {detail : Option Half} {s : State} (hrun : Running s)
include hrun

theorem report_of_outOfService (hp : portInService s p = false) :
    report p eb cb detail s = refuse .outOfService s := by
  simp [report, notRunning_of_running hrun, hp]

/-- An element or a class without a name is refused, whichever of the two it is (Table 3.3, check 3). -/
theorem report_of_out_of_range (hp : portInService s p = true) (h : 10 < eb.toNat ∨ 4 < cb.toNat) :
    report p eb cb detail s = refuse .range s := by
  simp only [report, notRunning_of_running hrun, hp]
  rcases h with he | hc
  · rw [elementOf_of_lt he]
    rfl
  · rw [reportableClassOf_of_lt hc]
    cases elementOf eb <;> rfl

/-- A REPORT on a known element and class is DENIED, or accepted, by the element's reporting right (R46). -/
theorem report_of_known {e : Element} {c : FaultClass} (hp : portInService s p = true) (he : elementOf eb = some e)
    (hc : reportableClassOf cb = some c) :
    report p eb cb detail s =
      if (elementConfig s.osc.image e).rights.get p = false then refuse .denied s
      else acceptReport (portReport p e c detail) s := by
  simp only [report, notRunning_of_running hrun, hp, he, hc]
  rfl

/-- The result of a report that is taken, as the reply carries it: the state of its pair's record after it (R30). -/
theorem resultCode_of_running (r : FaultReport) (after : State) :
    natByte (resultCode (reportResult r s after)) =
      match recordOf after r.element r.cls with
      | none => 2#8
      | some x => if x.state = .suspect then 0#8 else 1#8 := by
  have hfind : findRecord after.table.records r.element r.cls = recordOf after r.element r.cls := rfl
  simp only [reportResult, (isRunning_iff s).mpr hrun, hfind]
  cases recordOf after r.element r.cls with
  | none => rfl
  | some x => cases hs : x.state <;> simp [hs, natByte, resultCode]

end

/-- Settles O16: the checks of Table 3.3 in turn, and an accepted REPORT with its result. -/
theorem reportIsCheckedAndTaken : Obligations.ReportIsCheckedAndTaken := by
  unfold Obligations.ReportIsCheckedAndTaken
  intro p eb cb detail s hL i
  obtain ⟨hlength, hallowed⟩ := reportPayload_fits eb cb detail
  generalize hr : received p 0x21#8 (reportPayload eb cb detail) s = r
  have refused : ∀ st, report p eb cb detail r = refuse st r → Refused i st s := fun st h =>
    refused_of_act hL rfl rfl (requestOf_report p eb cb detail) hlength hallowed (by rw [hr]; exact h)
  have hrunning : Running s → Running r := fun h => hr ▸ h
  have hservice : portInService r p = portInService s p := hr ▸ rfl
  have himage : r.osc.image = s.osc.image := hr ▸ rfl
  refine ⟨fun hp => ?_, fun hp => ?_, fun hrun hp => ?_, fun hrun hp h => ?_, fun e c hrun hp he hc h4 => ?_⟩
  · exact refused _ (report_of_config (hr ▸ hp) p eb cb detail)
  · exact refused _ (report_of_failsafe (hr ▸ hp) p eb cb detail)
  · exact refused _ (report_of_outOfService (hrunning hrun) (hservice.trans hp))
  · exact refused _ (report_of_out_of_range (hrunning hrun) (hservice.trans hp) h)
  · have hknown := report_of_known (detail := detail) (hrunning hrun) (hservice.trans hp)
      (he ▸ elementOf_elementCode e) (hc ▸ reportableClassOf_classCode h4)
    rw [himage] at hknown
    refine ⟨fun hright => refused _ (by rw [hknown, if_pos hright]), fun hright => ?_⟩
    rw [if_neg (by simp [hright])] at hknown
    have hresult := resultCode_of_running (hrunning hrun) (portReport p e c detail)
      (handReport (portReport p e c detail) r)
    refine answered_of_act hL rfl hlength hallowed ?_
    rw [hr, hknown, acceptReport, hresult]
    rfl

end Sys2Proof.Machine
end

section
/-! START with its checks, the start vote and the reply (O23). -/

namespace Sys2Proof.Machine

/-! ### The parts of a START -/

/-- Supervision changes the check-in deadlines alone (R57). -/
theorem supervise_eq (p : Port) (s : State) :
    supervise p s =
      { s with contact := if checkInValue s.osc.image p ≠ 0 ∧ s.contact.get p = none ∧ portInService s p = true then
          s.contact.set p (some (checkInValue s.osc.image p)) else s.contact } := by
  unfold supervise
  split <;> rfl

theorem allStarted_iff (s : State) : allStarted s = true ↔ s.osc.started = PerPort.const true := beq_iff_eq

/-- RUN entry discards the start window (R169). -/
theorem runEntry_osc_startWindow (s : State) : (runEntry s).osc.startWindow = none := by
  rw [runEntry_frame (fun u => u.osc.startWindow) (by simp)]
  simp [runEntered]

/-- The first START (R168). -/
theorem acceptStart_of_config {s : State} (hp : s.osc.part = .config) (p : Port) :
    acceptStart p s = supervise p (enterStarting p s) := if_pos hp

section
variable {p : Port} {s : State} (hp : s.osc.part = .starting)
include hp

/-- A START from a port of the started set changes nothing (R168). -/
theorem acceptStart_of_started (h : s.osc.started.get p = true) : acceptStart p s = s := by
  simp [acceptStart, hp, h]

/-- A START from another port joins it to the started set, and enters RUN where that completes the set (R168, R169). -/
theorem acceptStart_of_joining (h : s.osc.started.get p = false) :
    acceptStart p s =
      if s.osc.started.set p true = PerPort.const true then runEntry (supervise p (joinStarted p s))
      else supervise p (joinStarted p s) := by
  have hall : allStarted (supervise p (joinStarted p s)) = true ↔ s.osc.started.set p true = PerPort.const true := by
    rw [allStarted_iff, supervise_osc]
    rfl
  simp [acceptStart, hp, h, hall]

end

/-! ### The checks of a START -/

theorem start_of_run {s : State} (hp : s.osc.part = .run) (p : Port) (named : Half) :
    start p named s = refuse .wrongState s := by simp [start, hp]

theorem start_of_other_digest {s : State} (hp : s.osc.part = .config ∨ s.osc.part = .starting) (p : Port)
    {named : Half} (h : named ≠ digest s.osc.image) : start p named s = refuse .digestMismatch s := by
  rcases hp with hp | hp <;> simp [start, hp, h]

/-- A START that passes its checks is accepted, with the reply that its effects leave (R168). -/
theorem start_of_matching {s : State} {named : Half} (p : Port)
    (hp : s.osc.part = .config ∨ s.osc.part = .starting ∧ s.osc.frozen = some named)
    (h : named = digest s.osc.image) : start p named s = accept (startReply (acceptStart p s)) (acceptStart p s) := by
  rcases hp with hp | ⟨hp, hf⟩
  · simp [start, imageCorrupted, hp, h]
  · simp [start, imageCorrupted, hp, hf, h]

/-! ### The reply -/

/-- The start window's time as the reply shows it: 0xFFFF where it does not run (Table 11.5). -/
def shownWindow : Timer → Half
  | none => 0xFFFF#16
  | some n => BitVec.ofNat 16 n

/-- A port set alone in a byte (R180). -/
theorem portSetByte_shows (v : PortSet) :
    ShowsPorts (portSetByte v) 0 v ∧ (portSetByte v).extractLsb' 4 4 = 0#4 := by
  simp only [ShowsPorts, portSetByte, flagByte_getLsbD]
  refine ⟨⟨rfl, rfl, rfl, rfl⟩, BitVec.eq_of_getLsbD_eq fun i hi => ?_⟩
  simp [flagByte_getLsbD]

/-- What the three bytes of the reply show (Table 11.5). -/
theorem startReply_shows {s : State} {v : PortSet} {w : Timer} (hv : s.osc.started = v) (hw : s.osc.startWindow = w) :
    let b := startReply s
    b.length = 3 ∧ ShowsPorts (byteAt b 0) 0 v ∧ (byteAt b 0).extractLsb' 4 4 = 0#4 ∧ word16At b 1 = shownWindow w := by
  subst hv hw
  obtain ⟨hports, hrest⟩ := portSetByte_shows s.osc.started
  refine ⟨rfl, hports, hrest, (byte_append_halfBytes _).trans ?_⟩
  cases s.osc.startWindow <;> rfl

/-- Settles O23: the refusals in turn; an accepted START is `acceptStart`, first, repeated, joining or completing. -/
theorem startIsCheckedAndCounted : Obligations.StartIsCheckedAndCounted := by
  unfold Obligations.StartIsCheckedAndCounted
  intro p named s hL i r supervised joined shows
  have hsupervised : supervise p (joinStarted p r) = { r with contact := supervised, osc.started := joined } :=
    supervise_eq p (joinStarted p r)
  have refused : ∀ st, start p named r = refuse st r → Refused i st s := fun st h =>
    refused_of_act hL rfl rfl rfl (by simp [halfBytes]) rfl h
  have accepted : ∀ {left : State} {v : PortSet} {w : Timer},
      r.osc.part = .config ∨ r.osc.part = .starting ∧ r.osc.frozen = some named → named = crc16 s.osc.image →
      acceptStart p r = left → left.osc.started = v → left.osc.startWindow = w →
      ∃ b t, exec i s = .next t ∧ shows b v (shownWindow w) ∧ Answered p 0x40#8 .ok b left t := by
    rintro left v w hp hd rfl hv hw
    obtain ⟨t, ht, ha⟩ := answered_of_act (i := i) hL rfl (by simp [halfBytes]) rfl (start_of_matching p hp hd)
    exact ⟨_, t, ht, startReply_shows hv hw, ha⟩
  refine ⟨fun hp => ?_, fun hp => ?_, fun hp hd => ?_, fun frozen hp hf hd => ?_, fun hp hd => ?_,
    fun hp hd hf hs => ?_, fun hp hd hf hs hall => ?_, fun hp hd hf hs hall => ?_⟩
  · exact refused _ (start_of_failsafe (s := r) hp p named)
  · exact refused _ (start_of_run (s := r) hp p named)
  · exact refused _ (start_of_other_digest (s := r) hp p hd)
  · refine refused _ (start_of_corrupted (s := r) p named hp fun h => hd ?_)
    exact Option.some.inj (hf.symm.trans h)
  · refine accepted (v := joined) (w := some _) (.inl hp) hd ?_ rfl rfl
    rw [acceptStart_of_config (s := r) hp, supervise_eq, hd]
    rfl
  · exact accepted (.inr ⟨hp, hf⟩) hd (acceptStart_of_started (s := r) hp hs) rfl rfl
  · refine accepted (.inr ⟨hp, hf⟩) hd ?_ rfl rfl
    exact (acceptStart_of_joining (s := r) hp hs).trans ((if_neg hall).trans hsupervised)
  · refine accepted (w := none) (.inr ⟨hp, hf⟩) hd ?_ ?_ (runEntry_osc_startWindow _)
    · exact (acceptStart_of_joining (s := r) hp hs).trans ((if_pos hall).trans (congrArg runEntry hsupervised))
    · exact runEntry_osc_started _

end Sys2Proof.Machine
end

section
/-! The link port's own answers, frame starts, reply ends and discards (O28). -/

namespace Sys2Proof.Machine

/-! ### Answers -/

/-- The codes of Table 11.5. -/
theorem codeKnown_iff (code : Byte) :
    codeKnown code = true ↔ code.toNat ∈ [0x10, 0x11, 0x12, 0x13, 0x14, 0x15, 0x16, 0x20, 0x21, 0x22, 0x23, 0x30, 0x31,
      0x32, 0x40, 0x41, 0x48, 0x49] := by
  unfold codeKnown codeLengths
  split <;> simp_all

theorem lengthAllowed_of_unknown {code : Byte} (h : codeKnown code = false) (n : Nat) :
    lengthAllowed code n = false := by
  cases ha : lengthAllowed code n with
  | false => rfl
  | true => rw [lengthAllowed_imp_codeKnown ha] at h; cases h

/-- A frame that R175 admits as an UNKNOWN_REQUEST has a length that its code does not allow. -/
theorem lengthAllowed_of_wellFormed {p : Port} {code : Byte} {payload : List Byte}
    (h : (Instr.unknownRequest p code payload).wellFormed = true) : lengthAllowed code payload.length = false := by
  simp only [Instr.wellFormed, Bool.and_eq_true, Bool.not_eq_true'] at h
  exact h.2

/-- Where the code does not allow the length, an UNKNOWN_REQUEST is taken as any frame is (R175). -/
theorem unknownRequest_of_not_allowed {code : Byte} {payload : List Byte}
    (h : lengthAllowed code payload.length = false) (p : Port) (s : State) :
    unknownRequest p code payload s = takeRequest p code payload true (fun s => refuse .range s) s := by
  simp [unknownRequest, h]

/-- A request that is answered with a refusal, by whichever block (R177). -/
theorem refused_of_sendReply {i : Instr} {p : Port} {code : Byte} {payload : List Byte} {st : Status} {s t : State}
    (hp : requestPort i = some p) (hq : requestOf i = some (code, payload)) (hx : exec i s = .next t)
    (ht : t = sendReply p code (refuse st (received p code payload s))) : Refused i st s :=
  ⟨p, code, payload, t, hp, hq, hx, ht ▸ answered_sendReply _ _ _⟩

/-! ### Discards -/

/-- The service arm is cleared if the port is the configuration port, and nothing else changes (R156). -/
theorem disarmFrom_eq (p : Port) (s : State) :
    disarmFrom p s = { s with osc.arm := s.osc.arm && decide (p ≠ s.osc.configPort) } := by
  unfold disarmFrom
  by_cases h : p = s.osc.configPort <;> simp [h]

/-- A discard, whole: the port with the error recorded, the service arm, and then the report (R176). -/
theorem discard_eq (p : Port) (k : LinkError) (s : State) :
    discard p k s = handReport (byMonitor (controllerOf p) .frameIntegrity)
      { s with
        ports := s.ports.set p (recordError k (s.ports.get p))
        osc.arm := s.osc.arm && decide (p ≠ s.osc.configPort) } := by
  unfold discard
  rw [disarmFrom_eq]
  rfl

/-- A STOP, LENGTH or CRC discard is taken on a port that is not REPLYING (R173, R176). -/
theorem frameDiscard_of_not_replying {p : Port} {s : State} (h : (s.ports.get p).receiver ≠ .replying)
    {k : FrameError} (hk : k ≠ .overlap) : frameDiscard p k s = discard p (frameErrorKind k) s := by
  unfold frameDiscard
  cases hr : (s.ports.get p).receiver with
  | replying => exact absurd hr h
  | idle =>
    cases k with
    | overlap => exact absurd rfl hk
    | _ => rfl
  | receiving =>
    cases k with
    | overlap => exact absurd rfl hk
    | _ => rfl

/-! ### On a port that is REPLYING -/

/-- Every request is taken by its port with its code and payload, if it is one that R175 admits. -/
theorem exec_request {i : Instr} {p : Port} (hp : requestPort i = some p) (hw : i.wellFormed = true) :
    ∃ code payload disarms act, ∀ s, exec i s = .next (takeRequest p code payload disarms act s) := by
  cases i <;> cases hp
  case unknownRequest code payload =>
    have hlength := lengthAllowed_of_wellFormed hw
    exact ⟨_, _, _, _, fun s => congrArg Host.Outcome.next (unknownRequest_of_not_allowed hlength p s)⟩
  all_goals exact ⟨_, _, _, _, fun _ => rfl⟩

section
variable {p : Port} {s : State} (hheld : s.time.held = false) (hr : (s.ports.get p).receiver = .replying)
include hheld hr

/-- A request, a first byte or a discard that comes while a port is REPLYING overlaps the reply (R173, R177). -/
theorem exec_of_replying {i : Instr} (hw : i.wellFormed = true)
    (h : requestPort i = some p ∨ (∃ k, i = .frameDiscard p k) ∨ (∃ b, i = .frameStart p b)) :
    exec i s = .next (overlapByte p s) := by
  rcases h with hp | ⟨k, rfl⟩ | ⟨b, rfl⟩
  · obtain ⟨code, payload, disarms, act, hx⟩ := exec_request hp hw
    rw [hx, takeRequest_of_replying hheld hr]
  · exact next_unlessHeld hheld (by simp only [frameDiscard, hr])
  · exact next_unlessHeld hheld (by simp only [startFrame, hr])

end

/-- Settles O28: the two answers of the link port, and each event by the receiver state in which it comes. -/
theorem linkPortsAnswerReceiveAndDiscard : Obligations.LinkPortsAnswerReceiveAndDiscard := by
  unfold Obligations.LinkPortsAnswerReceiveAndDiscard
  refine ⟨?_, fun p b s hheld hr => ?_, fun p s hheld hr => ?_, ?_⟩
  · intro p code payload s hL hlength i known
    refine ⟨fun hk => ?_, fun hk hw => ?_⟩
    · have hunknown : codeKnown code = false := Bool.eq_false_iff.mpr fun h => hk ((codeKnown_iff code).mp h)
      exact refused_of_sendReply (i := i) rfl rfl rfl
        ((unknownRequest_of_not_allowed (lengthAllowed_of_unknown hunknown _) p s).trans
          (takeRequest_of_unknown hL hlength hunknown))
    · have hbad : lengthAllowed code payload.length = false := lengthAllowed_of_wellFormed hw
      exact refused_of_sendReply (i := i) rfl rfl rfl
        ((unknownRequest_of_not_allowed hbad p s).trans
          (takeRequest_of_bad_length hL hlength ((codeKnown_iff code).mpr hk) hbad))
  · exact next_unlessHeld hheld (by simp only [startFrame, hr, setPort])
  · exact next_unlessHeld hheld (if_pos hr)
  · intro p s hheld discarded v
    have frame : ∀ k, v.receiver ≠ .replying → k ≠ .overlap →
        exec (.frameDiscard p k) s = .next (discard p (frameErrorKind k) s) :=
      fun _ hr hk => next_unlessHeld hheld (frameDiscard_of_not_replying hr hk)
    refine ⟨fun hr => ⟨?_, ?_, ?_⟩, fun hr => ?_, fun i hr hw hi => ?_⟩
    · exact (frame .stop hr nofun).trans (congrArg Host.Outcome.next (discard_eq p .stop s))
    · exact (frame .length hr nofun).trans (congrArg Host.Outcome.next (discard_eq p .length s))
    · exact (frame .crc hr nofun).trans (congrArg Host.Outcome.next (discard_eq p .crc s))
    · exact next_unlessHeld hheld ((if_pos hr).trans (discard_eq p .gap s))
    · rw [exec_of_replying hheld hr hw hi, overlapByte, discard_eq]
      rfl

end Sys2Proof.Machine
end

section
/-! The samples of the fault lines, LEVEL by Table 3.6 and EDGE by R53 (O33). -/

namespace Sys2Proof.Machine

theorem lineActive_iff {v : LineConfig} {high : Bool} : lineActive v high = true ↔ high = !v.low := by
  cases high <;> cases h : v.low <;> simp [lineActive, h]

theorem lineActive_eq_false_iff {v : LineConfig} {high : Bool} : lineActive v high = false ↔ ¬high = !v.low := by
  rw [← lineActive_iff, Bool.not_eq_true]

/-- The configured transition is the one that arrives at the active level (R53). -/
theorem edgeSeen_iff {v : LineConfig} {reference high : Bool} :
    edgeSeen v reference high = true ↔ reference = !high ∧ high = !v.low := by
  cases reference <;> cases high <;> cases h : v.low <;> simp [edgeSeen, h]

/-- The state after a line's report is handed to the Fault Table, its filter having been set (R52, R53). -/
def reportedLine (l : FaultLine) (w : LineFilter) (s : State) : State :=
  handReport (lineReport l (lineConfig s.osc.image l)) (setLine l w s)

theorem sampleLine_of_not_sampled {l : FaultLine} {s : State}
    (h : ¬Running s ∨ (lineConfig s.osc.image l).enabled = false) (high : Bool) : sampleLine l high s = s := by
  refine if_neg fun hs => ?_
  obtain ⟨hrun, henabled⟩ := Bool.and_eq_true_iff.mp hs
  rcases h with h | h
  · exact h ((isRunning_iff s).mp hrun)
  · rw [henabled] at h
    cases h

theorem lineSampled_of_enabled {l : FaultLine} {s : State} (hrun : Running s)
    (h : (lineConfig s.osc.image l).enabled = true) : lineSampled l s = true := by
  rw [lineSampled, (isRunning_iff s).mpr hrun, h]
  rfl

/-! ### LEVEL -/

section
variable {l : FaultLine} {s : State} (hs : lineSampled l s = true) (hm : (lineConfig s.osc.image l).mode = .level)
include hs hm

theorem sampleLine_of_level (high : Bool) : sampleLine l high s = sampleLevel l high s := by
  rw [sampleLine, if_pos hs, hm]

/-- A sample at the level that the line's qualification stands for ends a run (Table 3.6). -/
theorem sampleLine_of_same {high b : Bool} (ha : lineActive (lineConfig s.osc.image l) high = b)
    (hq : (s.lines.get l).qualified = b) :
    sampleLine l high s = setLine l { s.lines.get l with run := 0 } s := by
  simp [sampleLine_of_level hs hm, sampleLevel, levelFilter, completesRun, ha, hq]

/-- A sample at the other level counts, while the run is short of the filter count (Table 3.6). -/
theorem sampleLine_of_counting {high b : Bool} (ha : lineActive (lineConfig s.osc.image l) high = b)
    (hq : (s.lines.get l).qualified = !b) (hn : (s.lines.get l).run + 1 < (lineConfig s.osc.image l).filter) :
    sampleLine l high s = setLine l { s.lines.get l with run := (s.lines.get l).run + 1 } s := by
  simp [sampleLine_of_level hs hm, sampleLevel, levelFilter, completesRun, ha, hq, Nat.not_le.mpr hn]

section
variable (hn : (s.lines.get l).run + 1 = (lineConfig s.osc.image l).filter)
include hn

/-- The active sample that completes the run qualifies the line, which reports (R52). -/
theorem sampleLine_of_qualifying {high : Bool} (ha : lineActive (lineConfig s.osc.image l) high = true)
    (hq : (s.lines.get l).qualified = false) :
    sampleLine l high s = reportedLine l { s.lines.get l with qualified := true, run := 0 } s := by
  simp [sampleLine_of_level hs hm, sampleLevel, levelFilter, completesRun, reportedLine, ha, hq, hn]

/-- The inactive sample that completes the run ends the qualification, without a report (R51, R52). -/
theorem sampleLine_of_unqualifying {high : Bool} (ha : lineActive (lineConfig s.osc.image l) high = false)
    (hq : (s.lines.get l).qualified = true) :
    sampleLine l high s = setLine l { s.lines.get l with qualified := false, run := 0 } s := by
  simp [sampleLine_of_level hs hm, sampleLevel, levelFilter, completesRun, ha, hq, hn]

end

end

/-! ### EDGE -/

section
variable {l : FaultLine} {s : State} (hs : lineSampled l s = true) (hm : (lineConfig s.osc.image l).mode = .edge)
include hs hm

theorem sampleLine_of_edge (high : Bool) : sampleLine l high s = sampleEdge l high s := by
  rw [sampleLine, if_pos hs, hm]

/-- The configured transition from the reference level is reported (R53). -/
theorem sampleLine_of_seen {high : Bool} (hr : (s.lines.get l).reference = some (!high))
    (ha : high = !(lineConfig s.osc.image l).low) :
    sampleLine l high s = reportedLine l { s.lines.get l with reference := some high } s := by
  have hseen : edgeSeen (lineConfig s.osc.image l) (!high) high = true := edgeSeen_iff.mpr ⟨rfl, ha⟩
  simp [sampleLine_of_edge hs hm, sampleEdge, hr, hseen, reportedLine]

/-- Any other sample is the reference level of the next one, and that is all (R53). -/
theorem sampleLine_of_unseen {high : Bool}
    (h : (s.lines.get l).reference = none ∨ (s.lines.get l).reference = some high ∨
      ¬high = !(lineConfig s.osc.image l).low) :
    sampleLine l high s = setLine l { s.lines.get l with reference := some high } s := by
  cases hr : (s.lines.get l).reference with
  | none => simp [sampleLine_of_edge hs hm, sampleEdge, hr]
  | some reference =>
    have hunseen : ¬edgeSeen (lineConfig s.osc.image l) reference high = true := by
      intro hseen
      obtain ⟨hchanged, hactive⟩ := edgeSeen_iff.mp hseen
      simp [hr, hchanged, hactive] at h
    simp [sampleLine_of_edge hs hm, sampleEdge, hr, hunseen]

end

/-! ### The samples with names -/

/-- LINE_QUALIFY is the active sample that completes the run (R52). -/
theorem lineQualify_of_completing {l : FaultLine} {s : State} (hm : (lineConfig s.osc.image l).mode = .level)
    (hn : (s.lines.get l).run + 1 = (lineConfig s.osc.image l).filter) (hq : (s.lines.get l).qualified = false) :
    lineQualify l s = sampleLine l (!(lineConfig s.osc.image l).low) s :=
  if_pos (by simp [completesRun, hm, hq, hn])

/-- LINE_UNQUALIFY is the inactive sample that completes the run (R51). -/
theorem lineUnqualify_of_completing {l : FaultLine} {s : State} (hm : (lineConfig s.osc.image l).mode = .level)
    (hn : (s.lines.get l).run + 1 = (lineConfig s.osc.image l).filter) (hq : (s.lines.get l).qualified = true) :
    lineUnqualify l s = sampleLine l (lineConfig s.osc.image l).low s :=
  if_pos (by simp [completesRun, hm, hq, hn])

/-- LINE_EDGE is the sample that leaves an inactive reference level (R53). -/
theorem lineEdge_of_reference {l : FaultLine} {s : State} (hm : (lineConfig s.osc.image l).mode = .edge)
    (hr : (s.lines.get l).reference = some (lineConfig s.osc.image l).low) :
    lineEdge l s = sampleLine l (!(lineConfig s.osc.image l).low) s :=
  if_pos (by simp [hm, hr])

/-- Settles O33: the cases of Table 3.6 and of R53; a named sample is the one that it names. -/
theorem linesFilterAndReport : Obligations.LinesFilterAndReport := by
  unfold Obligations.LinesFilterAndReport
  intro l high s hheld v f filters reports active
  refine ⟨fun h => next_unlessHeld hheld (sampleLine_of_not_sampled h high), fun hrun he hm => ?_,
    fun hrun he hm => ?_⟩
  · have hs := lineSampled_of_enabled hrun he
    have on : active → lineActive v high = true := lineActive_iff.mpr
    have off : ¬active → lineActive v high = false := lineActive_eq_false_iff.mpr
    refine ⟨fun ha hq hn => ?_, fun ha hq hn => ?_, fun ha hq => ?_, fun ha hq hn => ?_, fun ha hq hn => ?_,
      fun ha hq => ?_⟩
    · exact next_unlessHeld hheld (sampleLine_of_counting hs hm (on ha) hq hn)
    · have hsample := sampleLine_of_qualifying hs hm hn (on ha) hq
      refine ⟨next_unlessHeld hheld hsample, next_unlessHeld hheld ?_⟩
      rw [lineQualify_of_completing hm hn hq, ← show high = !v.low from ha]
      exact hsample
    · exact next_unlessHeld hheld (sampleLine_of_same hs hm (off ha) hq)
    · exact next_unlessHeld hheld (sampleLine_of_counting hs hm (off ha) hq hn)
    · have hsample := sampleLine_of_unqualifying hs hm hn (off ha) hq
      refine ⟨next_unlessHeld hheld hsample, next_unlessHeld hheld ?_⟩
      rw [lineUnqualify_of_completing hm hn hq, ← show high = v.low from Bool.not_eq_not.mp ha]
      exact hsample
    · exact next_unlessHeld hheld (sampleLine_of_same hs hm (on ha) hq)
  · have hs := lineSampled_of_enabled hrun he
    refine ⟨fun h => next_unlessHeld hheld (sampleLine_of_unseen hs hm h), fun hr ha => ?_⟩
    have hsample : sampleLine l high s = reports { f with reference := some high } := sampleLine_of_seen hs hm hr ha
    have hlow : v.low = !high := by rw [show high = !v.low from ha, Bool.not_not]
    refine ⟨next_unlessHeld hheld hsample, next_unlessHeld hheld ((lineEdge_of_reference hm ?_).trans ?_)⟩
    · rw [hlow]; exact hr
    · rw [← ha]; exact hsample

end Sys2Proof.Machine
end

section
/-! SET_FLOOR with its checks (O17). -/

namespace Sys2Proof.Machine

theorem setFloor_of_config {s : State} (hp : s.osc.part = .config) (p : Port) (n : Byte) :
    setFloor p n s = refuse .notRunning s := by simp [setFloor, notRunning, hp]

section
variable {p : Port} {s : State} (hrun : Running s)
include hrun

theorem setFloor_of_outOfService (hp : portInService s p = false) (n : Byte) :
    setFloor p n s = refuse .outOfService s := by
  simp [setFloor, notRunning_of_running hrun, hp]

theorem setFloor_of_out_of_range (hp : portInService s p = true) {n : Byte} (h : 7 < n.toNat) :
    setFloor p n s = refuse .range s := by
  simp [setFloor, notRunning_of_running hrun, hp, profileOf_of_lt h]

/-- A SET_FLOOR that names a profile and passes the checks before is accepted (R71). -/
theorem setFloor_of_profile (hp : portInService s p = true) (f : ProfileId) :
    setFloor p (BitVec.ofNat 8 (profileRank f)) s = acceptFloor p (floorOf f) s := by
  simp [setFloor, notRunning_of_running hrun, hp, profileOf_profileRank]

end

/-- A floor request is shown as the number of the profile that was asked for, P0 as none (Table 11.5). -/
theorem floorCode_floorOf (f : ProfileId) : floorCode (floorOf f) = profileRank f := by cases f <;> rfl

/-- The state that an accepted SET_FLOOR leaves: a floor that changes is set with a recompute (R71). -/
def floorTaken (p : Port) (f : Option ProfileId) (s : State) : State :=
  if s.unit.floors.get p = f then s else recompute (setFloorOf p f s)

theorem floorTaken_floor (p : Port) (f : Option ProfileId) (s : State) : (floorTaken p f s).unit.floors.get p = f := by
  unfold floorTaken
  split
  case isTrue h => exact h
  case isFalse => simp

/-- The answer to an accepted SET_FLOOR: the floor and the severity of the target that it leaves (Table 11.5). -/
theorem acceptFloor_eq (p : Port) (f : ProfileId) (s : State) :
    acceptFloor p (floorOf f) s =
      accept [natByte (profileRank f), natByte (floorTaken p (floorOf f) s).unit.target.env.severity]
        (floorTaken p (floorOf f) s) := by
  rw [← floorCode_floorOf]
  rfl

/-- Settles O17: the checks of Table 4.6 in turn, and an accepted SET_FLOOR with its reply. -/
theorem floorRequestsAreCheckedAndSet : Obligations.FloorRequestsAreCheckedAndSet := by
  unfold Obligations.FloorRequestsAreCheckedAndSet
  intro p n s hL i
  let r := received p 0x22#8 [n] s
  have refused : ∀ st, setFloor p n r = refuse st r → Refused i st s := fun st h =>
    refused_of_act hL rfl rfl rfl (by simp) rfl h
  refine ⟨fun hp => ?_, fun hp => ?_, fun hrun hp => ?_, fun hrun hp h => ?_, fun f hrun hp hn => ?_⟩
  · exact refused _ (setFloor_of_config (s := r) hp p n)
  · exact refused _ (setFloor_of_failsafe (s := r) hp p n)
  · exact refused _ (setFloor_of_outOfService (s := r) hrun hp n)
  · exact refused _ (setFloor_of_out_of_range (s := r) hrun hp h)
  · subst hn
    refine ⟨floorTaken_floor p (floorOf f) r, ?_⟩
    exact answered_of_act hL rfl (by simp) rfl ((setFloor_of_profile (s := r) hrun hp f).trans (acceptFloor_eq p f r))

end Sys2Proof.Machine
end

section
/-! The publishing step of a recompute, and the expiry of the dwell (O35). -/

namespace Sys2Proof.Machine

theorem recompute_of_not_run {s : State} (hp : s.osc.part ≠ .run) : recompute s = computeTarget s := if_neg hp

theorem recompute_of_run {s : State} (hp : s.osc.part = .run) : recompute s = publish (computeTarget s) := if_pos hp

/-- With a dwell time of 0 the envelope becomes the target at once (R90). -/
theorem publish_of_no_dwell {s : State} (hd : (globalConfig s.osc.image).dwell = 0) :
    publish s = changeEnvelope s.unit.target.env (setDwell none s) := if_pos hd

section
variable {s : State} (hd : (globalConfig s.osc.image).dwell ≠ 0)
include hd

/-- A target that tightens the envelope, and in no field is looser, is published whole (Table 5.1, row 1). -/
theorem publish_of_tightened_to_target (htight : s.unit.envelope.tighter s.unit.target.env ≠ s.unit.envelope)
    (htarget : s.unit.envelope.tighter s.unit.target.env = s.unit.target.env) :
    publish s = changeEnvelope (s.unit.envelope.tighter s.unit.target.env) (setDwell none s) := by
  simp only [publish, if_neg hd, if_pos htight, if_pos htarget]

/-- A target that tightens the envelope in one field and loosens it in another is published in part, and a fresh dwell
starts (Table 5.1, row 2). -/
theorem publish_of_tightened_in_part (htight : s.unit.envelope.tighter s.unit.target.env ≠ s.unit.envelope)
    (htarget : s.unit.envelope.tighter s.unit.target.env ≠ s.unit.target.env) :
    publish s = changeEnvelope (s.unit.envelope.tighter s.unit.target.env)
      (setDwell (some (globalConfig s.osc.image).dwell) s) := by
  simp only [publish, if_neg hd, if_pos htight, if_neg htarget]

/-- A target that is the envelope cancels the dwell (Table 5.1, row 3). -/
theorem publish_of_reached (htight : s.unit.envelope.tighter s.unit.target.env = s.unit.envelope)
    (htarget : s.unit.envelope = s.unit.target.env) : publish s = setDwell none s := by
  simp only [publish, if_neg hd, if_neg (not_not.mpr htight), if_pos htarget]

/-- A target that only loosens the envelope waits for the dwell, which starts or goes on (Table 5.1, row 4). -/
theorem publish_of_loosened (htight : s.unit.envelope.tighter s.unit.target.env = s.unit.envelope)
    (htarget : s.unit.envelope ≠ s.unit.target.env) :
    publish s = setDwell (startIfIdle s.unit.dwell (globalConfig s.osc.image).dwell) s := by
  simp only [publish, if_neg hd, if_neg (not_not.mpr htight), if_neg htarget]

end

/-- A dwell that has run out in RUN ends with the envelope at the target (R89). -/
theorem dwellExpiry_of_due {s : State} (hp : s.osc.part = .run) (hdue : s.unit.dwell = some 0) :
    dwellExpiry s = changeEnvelope s.unit.target.env { s with unit.dwell := none } :=
  if_pos (by simp [inRun, ranOut, hp, hdue])

/-- Settles O35: a recompute in RUN is the publishing step behind the new target, row by row of Table 5.1. -/
theorem publishingFollowsTheTable : Obligations.PublishingFollowsTheTable := by
  unfold Obligations.PublishingFollowsTheTable
  intro s target u dwell tight
  refine ⟨fun hp => ?_, fun hp hd => ?_, fun hp hd => ⟨fun ht he => ?_, fun ht he => ?_, fun ht he => ?_, fun ht he => ?_⟩,
    fun hheld hp hdue => ?_⟩
  · exact recompute_of_not_run hp
  · exact (recompute_of_run hp).trans (publish_of_no_dwell hd)
  · exact (recompute_of_run hp).trans (publish_of_tightened_to_target hd ht he)
  · exact (recompute_of_run hp).trans (publish_of_tightened_in_part hd ht he)
  · exact (recompute_of_run hp).trans (publish_of_reached hd ht he)
  · refine (recompute_of_run hp).trans ((publish_of_loosened (s := computeTarget s) hd ht he).trans ?_)
    show setDwell (startIfIdle s.unit.dwell dwell) (computeTarget s) = _
    cases s.unit.dwell <;> rfl
  · exact next_unlessHeld hheld (dwellExpiry_of_due hp hdue)

end Sys2Proof.Machine
end

section
/-! The target: its demands, the rules that match, the cuts, and the values that they combine to (O37, O38). -/

namespace Sys2Proof.Machine

/-! ### Demands, rules and cuts -/

theorem isOut_iff (h : Health) : isOut h = true ↔ h = .isolated ∨ h = .lockedOut := by cases h <;> simp [isOut]

/-- The demands are P0, the targets of the matching rules, the floors in force and, with overflow, P7 (R74). -/
theorem mem_demands (image : List Byte) (health : PerElement Health) (floors : PerPort (Option ProfileId))
    (overflow : Bool) (f : ProfileId) :
    f ∈ demands image health floors overflow ↔
      f = .normal ∨ (∃ n ∈ matchedRules image health, f = (modeRule image n).target) ∨ (∃ p, floors.get p = some f) ∨
      (overflow = true ∧ f = .safeStop) := by
  have floor : f ∈ floorDemands floors ↔ ∃ p, floors.get p = some f := by
    simp [floorDemands, List.mem_filterMap, mem_allPorts]
  have rule : f ∈ (matchedRules image health).map (fun n => (modeRule image n).target) ↔
      ∃ n ∈ matchedRules image health, f = (modeRule image n).target := by
    simp only [List.mem_map, eq_comm]
  have stop : f ∈ (if overflow then [ProfileId.safeStop] else []) ↔ overflow = true ∧ f = .safeStop := by
    cases overflow <;> simp
  simp only [demands, List.mem_append, List.mem_singleton, rule, floor, stop, or_assoc]

theorem normal_mem_demands (image : List Byte) (health : PerElement Health) (floors : PerPort (Option ProfileId))
    (overflow : Bool) : .normal ∈ demands image health floors overflow :=
  (mem_demands image health floors overflow .normal).mpr (.inl rfl)

/-- A rule matches when it is valid and each element that it cares about satisfies its category (R68). -/
theorem mem_matchedRules (image : List Byte) (health : PerElement Health) (n : Nat) :
    n ∈ matchedRules image health ↔ n < 16 ∧ (modeRule image n).valid = true ∧
      ∀ e, (modeRule image n).care.get e = true →
        satisfies ((modeRule image n).category.get e) (health.get e) = true := by
  simp only [matchedRules, ruleMatches, List.mem_filter, List.mem_range, Bool.and_eq_true, List.all_eq_true,
    Bool.or_eq_true, Bool.not_eq_true', mem_allElements, true_implies]
  refine and_congr_right fun _ => and_congr_right fun _ => forall_congr' fun e => ?_
  cases (modeRule image n).care.get e <;> simp

/-- The FRONT cut applies when an element of the FRONT group is out, and the others likewise (Table 4.8). -/
theorem cutsOf_front (health : PerElement Health) : (cutsOf health).front = true ↔
    isOut (health.get .frontPower) = true ∨ isOut (health.get .frontMotor) = true ∨
      isOut (health.get .frontCtl) = true := by
  simp [cutsOf, groupOut, allElements, elementGroup]

theorem cutsOf_rear (health : PerElement Health) : (cutsOf health).rear = true ↔
    isOut (health.get .rearPower) = true ∨ isOut (health.get .rearMotor) = true ∨
      isOut (health.get .rearCtl) = true := by
  simp [cutsOf, groupOut, allElements, elementGroup]

theorem cutsOf_supply (health : PerElement Health) : (cutsOf health).supply = true ↔
    isOut (health.get .packCells) = true ∨ isOut (health.get .packCtl) = true := by
  simp [cutsOf, groupOut, allElements, elementGroup]

/-! ### The severity -/

/-- The severity floors of the cuts that apply (Table 4.8). -/
def cutFloors (c : Cuts) : List Nat :=
  (if c.front then [2] else []) ++ (if c.rear then [3] else []) ++ (if c.supply then [4] else [])

theorem severityOf_eq_foldl (ds : List ProfileId) (c : Cuts) :
    severityOf ds c = (cutFloors c ++ ds.map profileRank).foldl max 0 := by
  rw [List.foldl_append]
  obtain ⟨front, rear, supply⟩ := c
  cases front <;> cases rear <;> cases supply <;> rfl

/-- The severity is 0, a cut's floor or a demand's rank, and none of these is above it (R76). -/
theorem severityOf_isGreatest (ds : List ProfileId) (c : Cuts) :
    severityOf ds c ∈ 0 :: (cutFloors c ++ ds.map profileRank) ∧
    ∀ n ∈ 0 :: (cutFloors c ++ ds.map profileRank), n ≤ severityOf ds c := by
  rw [← List.max?_eq_some_iff, List.max?_cons', severityOf_eq_foldl]

/-- Settles O37: the severity is the maximum of a list of the same members, to which P0's rank lends its 0. -/
theorem severityIsTheHighest : Obligations.SeverityIsTheHighest := by
  unfold Obligations.SeverityIsTheHighest
  intro image health floors overflow ds t ranks
  have hnormal : ProfileId.normal ∈ ds := normal_mem_demands image health floors overflow
  have hranks : ∀ n, n ∈ ranks ↔ n ∈ 0 :: (cutFloors t.cuts ++ ds.map profileRank) := by
    intro n
    have hzero : n = 0 → n ∈ ds.map profileRank := by
      rintro rfl
      exact List.mem_map.mpr ⟨.normal, hnormal, rfl⟩
    simp only [ranks, cutFloors, List.mem_cons, List.mem_append]
    tauto
  obtain ⟨hmem, hle⟩ := severityOf_isGreatest ds t.cuts
  exact ⟨hnormal, (hranks _).mpr hmem, fun n hn => hle n ((hranks n).mp hn)⟩

/-! ### The limits -/

/-- A cap of the combined limits is the lowest that a demand holds (R75). -/
theorem combined_cap {cap : Limits → Nat} (hcap : ∀ a b, cap (a.tighter b) = min (cap a) (cap b)) (image : List Byte)
    {ds : List ProfileId} (hnormal : .normal ∈ ds) :
    (∀ f ∈ ds, cap (combined image ds) ≤ cap (profileLimits image f)) ∧
    ∃ f ∈ ds, cap (combined image ds) = cap (profileLimits image f) := by
  have hfold : cap (combined image ds) =
      (ds.map fun f => cap (profileLimits image f)).foldl min (cap (profileLimits image .normal)) := by
    rw [List.foldl_map]
    exact (List.foldl_hom cap fun _ _ => (hcap _ _).symm).symm
  obtain ⟨hmem, hle⟩ := List.min?_eq_some_iff.mp (List.min?_cons'.trans (congrArg some hfold.symm))
  refine ⟨fun f hf => hle _ (List.mem_cons_of_mem _ (List.mem_map_of_mem hf)), ?_⟩
  rcases List.mem_cons.mp hmem with h | h
  · exact ⟨.normal, hnormal, h⟩
  · obtain ⟨f, hf, heq⟩ := List.mem_map.mp h
    exact ⟨f, hf, heq.symm⟩

/-- An allowance of the combined limits is yes exactly when every demand holds yes (R75). -/
theorem combined_allowance {allowance : Limits → Bool}
    (hallow : ∀ a b, allowance (a.tighter b) = (allowance a && allowance b)) (image : List Byte)
    {ds : List ProfileId} (hnormal : .normal ∈ ds) :
    allowance (combined image ds) = true ↔ ∀ f ∈ ds, allowance (profileLimits image f) = true := by
  have hfold : ∀ (fs : List ProfileId) (l : Limits),
      allowance (fs.foldl (fun acc f => acc.tighter (profileLimits image f)) l) = true ↔
        allowance l = true ∧ ∀ f ∈ fs, allowance (profileLimits image f) = true := by
    intro fs
    induction fs with
    | nil => simp
    | cons f fs ih => intro l; simp [ih, hallow, and_assoc]
  exact (hfold ds _).trans (and_iff_right_of_imp fun h => h _ hnormal)

/-- Settles O38: the demands, the matching rules and the cuts by membership, and each limit field by its own law. -/
theorem targetCombinesItsDemands : Obligations.TargetCombinesItsDemands := by
  unfold Obligations.TargetCombinesItsDemands
  constructor
  · intro image health floors overflow t out
    have hout : ∀ e, isOut (health.get e) = true ↔ out e := fun e => isOut_iff _
    refine ⟨mem_demands image health floors overflow, fun n => (mem_matchedRules image health n).trans ?_, ?_, ?_, ?_,
      rfl, rfl⟩
    · refine and_congr_right fun _ => and_congr_right fun _ => forall_congr' fun e => imp_congr_right fun _ => ?_
      cases (modeRule image n).category.get e <;> simp [satisfies, out]
    · exact (cutsOf_front health).trans (or_congr (hout _) (or_congr (hout _) (hout _)))
    · exact (cutsOf_rear health).trans (or_congr (hout _) (or_congr (hout _) (hout _)))
    · exact (cutsOf_supply health).trans (or_congr (hout _) (hout _))
  · intro image health floors overflow ds t
    have hnormal : ProfileId.normal ∈ ds := normal_mem_demands image health floors overflow
    obtain ⟨hfront, hfront'⟩ := combined_cap (cap := Limits.frontCap) (fun _ _ => rfl) image hnormal
    obtain ⟨hrear, hrear'⟩ := combined_cap (cap := Limits.rearCap) (fun _ _ => rfl) image hnormal
    obtain ⟨hspeed, hspeed'⟩ := combined_cap (cap := Limits.speedCap) (fun _ _ => rfl) image hnormal
    have cut : ∀ (allowed c : Bool) {P : Prop}, (allowed = true ↔ P) → ((allowed && !c) = true ↔ c = false ∧ P) := by
      intro allowed c P h
      rw [Bool.and_eq_true, Bool.not_eq_true', h, and_comm]
    exact ⟨fun f hf => ⟨hfront f hf, hrear f hf, hspeed f hf⟩, hfront', hrear', hspeed',
      cut _ _ (combined_allowance (allowance := Limits.regen) (fun _ _ => rfl) image hnormal),
      cut _ _ (combined_allowance (allowance := Limits.frontDrive) (fun _ _ => rfl) image hnormal),
      cut _ _ (combined_allowance (allowance := Limits.rearDrive) (fun _ _ => rfl) image hnormal)⟩

end Sys2Proof.Machine
end

section
/-! Overflow: the target that it demands, and that nothing but a reset clears it (O39). -/

namespace Sys2Proof.Machine

/-- Overflow changes the fields of the target and its overflow demand alone (R77). -/
theorem targetOf_overflow_eq (image : List Byte) (health : PerElement Health) (floors : PerPort (Option ProfileId)) :
    targetOf image health floors true =
      { targetOf image health floors false with env := safeStop, overflowDemand := true } := by
  rw [← targetOf_overflow image health floors]
  rfl

theorem overflowed_overflow (s : State) : (overflowed s).table.overflow = true := by
  unfold overflowed
  split
  case isTrue h => exact h
  case isFalse => simp

/-- A report never clears overflow: one that finds no room sets it (R29). -/
theorem handReport_overflow (r : FaultReport) {s : State} (hs : s.table.overflow = true) :
    (handReport r s).table.overflow = true := by
  rcases handReport_cases r s with h | ⟨-, -, h | ⟨-, h⟩⟩ | ⟨-, -, h⟩ <;> rw [h]
  · exact hs
  · exact hs
  · exact (confirmRecord_table_overflow _ _ _).trans hs
  · rw [leaveUnrecorded_eq]
    split
    · rw [failTrial_table]
      exact overflowed_overflow s
    · exact overflowed_overflow s

theorem takeDecay_overflow (e : Element) (c : FaultClass) (x : FaultRecord) (s : State) :
    (takeDecay e c x s).table.overflow = s.table.overflow := by
  unfold takeDecay
  dsimp only
  split <;> rfl

theorem corruptImage_table (k : Nat) (b : Byte) (s : State) : (corruptImage k b s).table = s.table := by
  unfold corruptImage
  split <;> rfl

/-- No action but a reset clears overflow (R77). -/
theorem Act.keeps_overflow {i : Instr} {s t : State} (h : Act i s t) (hi : isReset i = false)
    (hs : s.table.overflow = true) : t.table.overflow = true := by
  cases h with
  | stay => exact hs
  | report r => exact handReport_overflow r hs
  | floor p f hp => exact hs
  | opens b named asks answered proper => exact hs
  | answers p b isOpen asked proper => exact hs
  | trial slot e u closed isClosed admitted named => rwa [startTrial_table_overflow, closed.table]
  | pass slot x isRun held => rwa [passTrial_table]
  | start p before => rwa [(acceptStart_cases p s).1]
  | window before =>
    rw [runEntry_table]
    exact foldl_keeps (P := fun u => u.table.overflow = true) (f := fun u p => handReport (startVoteReport p) u)
      (fun p u => handReport_overflow _) _ hs
  | write k n entry isConfig => rwa [(acceptWrite_parts k n entry s).1]
  | unlock es => rwa [(unlockEntries_parts es s).1]
  | decay e c x found running suspect => rwa [takeDecay_overflow]
  | failsafe cause => rwa [requestFailsafe_table]
  | tick => exact hs
  | corrupt k b h => rwa [corruptImage_table]
  | powerOn a b h => subst h; cases hi
  | keyCycle h => subst h; cases hi

/-- Settles O39: P7 among the demands stops the target, and a command's one action keeps overflow. -/
theorem overflowDemandsSafeStop : Obligations.OverflowDemandsSafeStop := by
  unfold Obligations.OverflowDemandsSafeStop
  refine ⟨targetOf_overflow_eq, fun i s t hexec hi hs => ?_⟩
  obtain ⟨a, b, ha, hact, hb⟩ := exec_effect hexec
  rw [hb.table]
  exact hact.keeps_overflow hi (by rwa [ha.table])

end Sys2Proof.Machine
end

section
/-! A change of the envelope, whole (O36); FAILSAFE entry, whole, and what requests it (O32). -/

namespace Sys2Proof.Machine

/-! ### A change of the envelope, whole -/

/-- The link ports after a change of the envelope, all at once (R84, R144). -/
theorem changeEnvelope_ports {v : Envelope} {s : State} (h : v ≠ s.unit.envelope) :
    (changeEnvelope v s).ports = s.ports.map fun w =>
      { w with
        notices :=
          { w.notices with
            envelope := some (s.unit.generation + 1)
            trial := evaluationNotice s.recovery.primary (changeEnvelope v s).recovery.primary w.notices.trial } } := by
  refine PerPort.ext_get fun p => ?_
  rw [changeEnvelope_port, PerPort.get_map, if_neg h, changeEnvelope_unit_generation, if_neg h]

/-- A change of the envelope changes the ports' notices, the envelope with its generation and adoption, the outputs and
the PRIMARY trial, and nothing else. -/
theorem changeEnvelope_frame (v : Envelope) (s : State) :
    changeEnvelope v s = { s with
      ports := (changeEnvelope v s).ports
      unit := { s.unit with
        envelope := (changeEnvelope v s).unit.envelope
        generation := (changeEnvelope v s).unit.generation
        adoption := (changeEnvelope v s).unit.adoption }
      permit.outputs := (changeEnvelope v s).permit.outputs
      recovery.primary := (changeEnvelope v s).recovery.primary } := by
  have time := changeEnvelope_time v s
  have table := changeEnvelope_table v s
  have map := changeEnvelope_map v s
  have lines := changeEnvelope_lines v s
  have contact := changeEnvelope_contact v s
  have retained := changeEnvelope_retained v s
  have osc := changeEnvelope_osc v s
  have pending := changeEnvelope_pending v s
  have floors := changeEnvelope_unit_floors v s
  have target := changeEnvelope_unit_target v s
  have dwell := changeEnvelope_unit_dwell v s
  have mismatch := changeEnvelope_permit_mismatch v s
  have ballot := changeEnvelope_recovery_ballot v s
  have nested := changeEnvelope_recovery_nested v s
  generalize changeEnvelope v s = t at *
  obtain ⟨_, _, _, _, _, _, ⟨_, _, _, _, _, _⟩, ⟨_, _⟩, ⟨_, _, _⟩, _, _, _⟩ := s
  obtain ⟨_, _, _, _, _, _, ⟨_, _, _, _, _, _⟩, ⟨_, _⟩, ⟨_, _, _⟩, _, _, _⟩ := t
  simp_all

/-- The TRIAL notice of an evaluation that suspends or resumes the trial (Table 8.5). -/
theorem evaluationNotice_of_changed {x y : Trial} (h : x.state ≠ y.state) (n : Option (Element × TrialOutcome)) :
    evaluationNotice (some x) (some y) n =
      some (x.element, if y.state = .suspended then .suspended else .resumed) := if_neg h

/-- Settles O36: each part of the unit by its own lemma, and the frame around them. -/
theorem envelopeChangesHaveTheirEffects : Obligations.EnvelopeChangesHaveTheirEffects := by
  unfold Obligations.EnvelopeChangesHaveTheirEffects
  intro v s
  refine ⟨changeEnvelope_self, ?_⟩
  intro h t
  have htrial : ∀ p, (t.ports.get p).notices.trial =
      evaluationNotice s.recovery.primary t.recovery.primary (s.ports.get p).notices.trial := fun p =>
    congrArg (·.notices.trial) (changeEnvelope_port v s p)
  have hprimary : t.recovery.primary = s.recovery.primary.map (evaluatedTrial s.recovery.nested v) :=
    (changeEnvelope_primary v s).trans (if_neg h)
  have hgeneration : t.unit.generation = s.unit.generation + 1 := (changeEnvelope_unit_generation v s).trans (if_neg h)
  refine ⟨changeEnvelope_unit_envelope v s, hgeneration, fun p => ?_, fun d => ?_,
    (changeEnvelope_outputs v s).trans (if_neg h), fun hx => by rw [hprimary, hx]; rfl,
    fun x hx => by rw [hprimary, hx]; rfl, fun g => suspensionHolds_iff g v, fun x hx hstate hsuspends p => ?suspended,
    fun x hx hstate hallows hnested p => ?resumed, ?frame⟩
  case suspended =>
    have hy := evaluatedTrial_of_suspends (n := s.recovery.nested) hsuspends
    rw [htrial, hprimary, hx, Option.map_some, hy, evaluationNotice_of_changed (by simp [hstate])]
    rfl
  case resumed =>
    have hy := evaluatedTrial_of_not_suspends hallows
    rw [htrial, hprimary, hx, hnested, Option.map_some, hy, evaluationNotice_of_changed (by simp [hstate])]
    rfl
  case frame =>
    rw [← changeEnvelope_ports h]
    exact changeEnvelope_frame v s
  · rw [changeEnvelope_ports h, PerPort.get_map]
  · rw [changeEnvelope_adoption, if_neg h]
    cases portRequired s d <;> cases (s.unit.adoption.get d).deadline <;> simp

/-! ### FAILSAFE entry, whole -/

/-- The generation after the SAFE_STOP demand: advanced only if the demand changes the envelope (R86). -/
def stoppedGeneration (s : State) : Half :=
  if s.unit.envelope = safeStop then s.unit.generation else s.unit.generation + 1

/-- The state after FAILSAFE entry, whole (R86, R109, R110). -/
theorem requestFailsafe_eq {s : State} (h : s.osc.part ≠ .failsafe) (cause : Cause) :
    requestFailsafe cause s =
      { s with
        osc.part := .failsafe
        osc.arm := false
        osc.cause := { cause := cause, enteredAt := some s.time.uptime, enteredFrom := some s.osc.part }
        unit.envelope := safeStop
        unit.generation := stoppedGeneration s
        unit.adoption :=
          { front := { s.unit.adoption.front with latch := false }
            rear := { s.unit.adoption.rear with latch := false } }
        permit.outputs := { frontEn := false, rearEn := false, regenEn := false, packTrip := true }
        ports := s.ports.map fun v =>
          { v with notices := { v.notices with envelope := some (stoppedGeneration s) } } } := by
  have hu : (enterFailsafe cause s).unit = s.unit := rfl
  rw [requestFailsafe, if_neg h]
  by_cases he : s.unit.envelope = safeStop
  · have hg : stoppedGeneration s = s.unit.generation := if_pos he
    rw [hg, demandSafeStop, hu, if_pos he, ← he]
    rfl
  · have hg : stoppedGeneration s = s.unit.generation + 1 := if_neg he
    rw [hg, demandSafeStop, hu, if_neg he]
    rfl

/-! ### Readback samples and the integrity check -/

/-- The counter of a readback goes back to 0 at a match, and up to 3 at a mismatch (R106, Table 6.2). -/
theorem mismatchAfter_beq (n : Nat) (a b : Bool) :
    mismatchAfter n (a == b) = if a != b then (if n < 3 then n + 1 else 3) else 0 := by
  have hmin : min 3 (n + 1) = if n < 3 then n + 1 else 3 := by split <;> omega
  cases a <;> cases b <;> simp [mismatchAfter, hmin]

/-- Both counters after a readback sample, whole. -/
theorem countMismatches_eq (v : Readback) (s : State) :
    countMismatches v s = { s with
      permit.mismatch := PerDrive.mk
        (if v.frb != s.permit.outputs.frontEn then
          (if s.permit.mismatch.front < 3 then s.permit.mismatch.front + 1 else 3) else 0)
        (if v.rrb != s.permit.outputs.rearEn then
          (if s.permit.mismatch.rear < 3 then s.permit.mismatch.rear + 1 else 3) else 0) } := by
  rw [← mismatchAfter_beq, ← mismatchAfter_beq]
  rfl

theorem thirdMismatch_eq (d : DrivePort) (v : Readback) (s : State) :
    thirdMismatch d v s = ((readbackLevel v d != drivenLevel s.permit.outputs d) && s.permit.mismatch.get d == 2) :=
  Bool.and_comm _ _

/-- A level that is not the one driven is its negation. -/
theorem eq_not_of_bne {a b : Bool} (h : (a != b) = true) : a = !b := by revert h; cases a <;> cases b <;> simp

/-- The sample that READBACK_MISMATCH stands for is the one that it names (R106). -/
theorem mismatchSample_eq (first : DrivePort) (v : Readback) {s : State}
    (h : (readbackLevel v first != drivenLevel s.permit.outputs first) = true) :
    mismatchSample { drive := first, other := readbackLevel v (otherDrive first) } s = v := by
  obtain ⟨frb, rrb⟩ := v
  have hlevel := eq_not_of_bne h
  cases first <;> simp only [readbackLevel] at hlevel <;> subst hlevel <;> rfl

/-- Settles O32: the sample's comparisons and requests in turn, the integrity check, and FAILSAFE entry whole. -/
theorem readbackAndIntegrityStopTheDrive : Obligations.ReadbackAndIntegrityStopTheDrive := by
  unfold Obligations.ReadbackAndIntegrityStopTheDrive
  refine ⟨?_, ?_, fun cause s => ⟨fun hp => requestFailsafe_of_failsafe hp cause, fun hp => requestFailsafe_eq hp cause⟩⟩
  · intro first v s hheld shown other cause n differs counted requests
    have hshown : shown = readbackLevel v := funext fun d => by cases d <;> rfl
    have hother : other = otherDrive first := by cases first <;> rfl
    have hcause : cause = readbackCause := funext fun d => by cases d <;> rfl
    have hrequests : ∀ d u, requests d u = requestIf (thirdMismatch d v s) d u := fun d u => by
      rw [thirdMismatch_eq, ← hshown, requestIf, ← hcause]
    have hsample : sampleReadback first v s = requests other (requests first counted) := by
      rw [hrequests, hrequests, hother, sampleReadback, countMismatches_eq]
      rfl
    refine ⟨next_unlessHeld hheld hsample, fun hdiffers hsecond => next_unlessHeld hheld ?_⟩
    have hm : mismatchSample { drive := first, other := shown other } s = v := by
      rw [hshown, hother]
      exact mismatchSample_eq first v (by rw [← hshown]; exact hdiffers)
    rw [readbackMismatch, if_pos hsecond, hm, hsample]
  · intro s hheld hrun hdue u
    refine next_unlessHeld hheld ?_
    have hguard : (isRunning s && ranOut s.osc.integrity) = true := by
      rw [(isRunning_iff s).mpr hrun, hdue]
      rfl
    rw [integrityCheckExpiry, if_pos hguard]
    rfl

end Sys2Proof.Machine
end

section
/-! ADOPT with its checks (O18). -/

namespace Sys2Proof.Machine

theorem adopt_of_before_run {s : State} (hp : s.osc.part = .config ∨ s.osc.part = .starting) (p : Port) (g : Half) :
    adopt p g s = refuse .notRunning s := by
  rcases hp with hp | hp <;> simp [adopt, hp]

section
variable {s : State} (hrun : s.osc.part = .run)
include hrun

theorem adopt_of_no_drive {p : Port} (hp : driveOf p = none) (g : Half) : adopt p g s = refuse .denied s := by
  simp [adopt, hrun, hp]

variable {d : DrivePort}

theorem adopt_of_outOfService (hs : portInService s (portOfDrive d) = false) (g : Half) :
    adopt (portOfDrive d) g s = refuse .outOfService s := by
  simp [adopt, hrun, hs]

theorem adopt_of_stale (hs : portInService s (portOfDrive d) = true) {g : Half} (hg : g ≠ s.unit.generation) :
    adopt (portOfDrive d) g s = refuse .stale s := by
  simp [adopt, hrun, hs, hg]

/-- An ADOPT of the current generation from a drive port in service is accepted (R96). -/
theorem adopt_of_current (hs : portInService s (portOfDrive d) = true) :
    adopt (portOfDrive d) s.unit.generation s = acceptAdopt d s := by
  simp [adopt, hrun, hs]

end

/-- The state that an accepted ADOPT leaves: the adoption record, and an output update (R96, R103). -/
def adoptionTaken (d : DrivePort) (s : State) : State :=
  updateOutputs (setAdoption d (adopted (axleAllowed s.unit.envelope d) s.unit.generation) s)

/-- The reply to an accepted ADOPT: the generation, and whether the latch is set (Table 11.5). -/
theorem acceptAdopt_eq (d : DrivePort) (s : State) :
    acceptAdopt d s = accept [lowByte s.unit.generation, highByte s.unit.generation,
      if axleAllowed s.unit.envelope d then 1#8 else 0#8] (adoptionTaken d s) := by
  have hlatch : ((adoptionTaken d s).unit.adoption.get d).latch = axleAllowed s.unit.envelope d := by
    simp [adoptionTaken, adopted]
  rw [← flagByte_singleton, ← hlatch]
  rfl

/-- An ADOPT is refused, or taken: in RUN, from a drive port in service, with the current generation (Table 5.3). -/
theorem adopt_cases (p : Port) (g : Half) (s : State) :
    (adopt p g s).state = s ∨
    ∃ d, p = portOfDrive d ∧ g = s.unit.generation ∧ s.osc.part = .run ∧ portInService s (portOfDrive d) = true ∧
      (adopt p g s).state = adoptionTaken d s := by
  by_cases hrun : s.osc.part = .run
  · cases hd : driveOf p with
    | none => exact .inl (by rw [adopt_of_no_drive hrun hd]; rfl)
    | some d =>
      obtain rfl : p = portOfDrive d := by revert hd; cases p <;> cases d <;> simp [driveOf, portOfDrive]
      cases hs : portInService s (portOfDrive d) with
      | false => exact .inl (by rw [adopt_of_outOfService hrun hs]; rfl)
      | true =>
        by_cases hg : g = s.unit.generation
        · exact .inr ⟨d, rfl, hg, hrun, hs, by rw [hg, adopt_of_current hrun hs]; rfl⟩
        · exact .inl (by rw [adopt_of_stale hrun hs hg]; rfl)
  · by_cases hf : s.osc.part = .failsafe
    · exact .inl (by rw [adopt_of_failsafe hf]; rfl)
    · have hp : s.osc.part = .config ∨ s.osc.part = .starting := by revert hrun hf; cases s.osc.part <;> simp
      exact .inl (by rw [adopt_of_before_run hp]; rfl)

/-- Settles O18: the checks of Table 5.3 in turn, and an accepted ADOPT with its reply. -/
theorem adoptIsCheckedAndTaken : Obligations.AdoptIsCheckedAndTaken := by
  unfold Obligations.AdoptIsCheckedAndTaken
  intro p g s hL i
  let r := received p 0x23#8 (halfBytes g) s
  have refused : ∀ st, adopt p g r = refuse st r → Refused i st s := fun st h =>
    refused_of_act hL rfl rfl rfl (by simp [halfBytes]) rfl h
  refine ⟨fun hp => ?_, fun hp => ?_, fun hrun hp => ?_, fun d hrun hd => ?_⟩
  · exact refused _ (adopt_of_before_run (s := r) hp p g)
  · exact refused _ (adopt_of_failsafe (s := r) hp p g)
  · refine refused _ (adopt_of_no_drive (s := r) hrun ?_ g)
    rcases hp with rfl | rfl <;> rfl
  · subst hd
    refine ⟨fun hs => refused _ (adopt_of_outOfService (s := r) hrun hs g),
      fun hs hg => refused _ (adopt_of_stale (s := r) hrun hs hg), fun hs hg => ?_⟩
    subst hg
    intro _ a
    have htaken : adoptionTaken d r = { r with
        unit.adoption := a
        permit.outputs := outputsOf .run s.unit.envelope a.front.latch a.rear.latch } := by
      rw [← hrun]
      rfl
    refine answered_of_act hL rfl (by simp [halfBytes]) rfl ?_
    exact (adopt_of_current (s := r) hrun hs).trans ((acceptAdopt_eq d r).trans (by rw [htaken]; rfl))

end Sys2Proof.Machine
end

section
/-! READ_ENVELOPE and its bytes (O10). -/

namespace Sys2Proof.Machine

/-! ### Bits of the bytes -/

/-- Four flags in the low bits of a byte, and a two-bit code above them (Table 11.8). -/
theorem codeAboveFlags_shows (f0 f1 f2 f3 : Bool) (c : BitVec 2) :
    let b := flagByte [f0, f1, f2, f3] ||| (c.setWidth 8 <<< 4)
    b.getLsbD 0 = f0 ∧ b.getLsbD 1 = f1 ∧ b.getLsbD 2 = f2 ∧ b.getLsbD 3 = f3 ∧
    b.extractLsb' 4 2 = c ∧ b.extractLsb' 6 2 = 0#2 := by
  revert f0 f1 f2 f3 c
  decide

/-- The first byte of an adoption record: two flags, a two-bit code, two flags (Table 11.8). -/
theorem codeBetweenFlags_shows (f0 f1 f4 f5 : Bool) (c : BitVec 2) :
    let b := flagByte [f0, f1] ||| (c.setWidth 8 <<< 2) ||| flagByte [false, false, false, false, f4, f5]
    b.getLsbD 0 = f0 ∧ b.getLsbD 1 = f1 ∧ b.extractLsb' 2 2 = c ∧ b.getLsbD 4 = f4 ∧ b.getLsbD 5 = f5 ∧
    b.extractLsb' 6 2 = 0#2 := by
  revert f0 f1 f4 f5 c
  decide

/-- Three flags in the low bits of a byte, and a three-bit code in bits 4 to 6 (R182). -/
theorem codeAboveAllowances_shows (f0 f1 f2 : Bool) (c : BitVec 3) :
    let b := flagByte [f0, f1, f2] ||| (c.setWidth 8 <<< 4)
    b.getLsbD 0 = f0 ∧ b.getLsbD 1 = f1 ∧ b.getLsbD 2 = f2 ∧ b.getLsbD 3 = false ∧ b.extractLsb' 4 3 = c ∧
    b.getLsbD 7 = false := by
  revert f0 f1 f2 c
  decide

theorem flagByte_four_shows (f0 f1 f2 f3 : Bool) :
    let b := flagByte [f0, f1, f2, f3]
    b.getLsbD 0 = f0 ∧ b.getLsbD 1 = f1 ∧ b.getLsbD 2 = f2 ∧ b.getLsbD 3 = f3 ∧ b.extractLsb' 4 4 = 0#4 := by
  revert f0 f1 f2 f3
  decide

/-- The code of a timer, as the two bits that show it. -/
theorem natByte_timerCode (part : PartState) (t : Timer) :
    natByte (timerCode part t) = (timerBits part t).setWidth 8 := by
  cases t <;> cases part <;> rfl

/-- A severity's low three bits, as the three bits that show it. -/
theorem natByte_mod_eight (n : Nat) : natByte (n % 8) = (BitVec.ofNat 3 n).setWidth 8 := by
  apply BitVec.eq_of_toNat_eq
  simp [natByte]

/-- Bit n of a set of mode rules says whether Mn is in the set. -/
theorem ruleBits_getLsbD (matched : List Nat) {n : Nat} (hn : n < 16) :
    (ruleBits matched).getLsbD n = decide (n ∈ matched) := by
  have hfold : ∀ (ms : List Nat) (acc : Half),
      (ms.foldl (fun acc n => acc ||| (1#16 <<< n)) acc).getLsbD n = (acc.getLsbD n || decide (n ∈ ms)) := by
    intro ms
    induction ms with
    | nil => simp
    | cons m ms ih =>
      intro acc
      have hbit : (1#16 <<< m).getLsbD n = decide (n = m) := by
        simp only [BitVec.getLsbD_shiftLeft, BitVec.getLsbD_one, hn, decide_true, Bool.true_and]
        by_cases h : n = m
        · simp [h]
        · simp only [h, decide_false, Bool.and_eq_false_imp, Bool.not_eq_true', decide_eq_false_iff_not]
          omega
      rw [List.foldl_cons, ih, BitVec.getLsbD_or, hbit, Bool.or_assoc]
      simp
  exact (hfold matched 0#16).trans (by simp)

/-! ### The parts of the payload -/

theorem showsLimits_envelopeBytes {b : List Byte} {n : Nat} {v : Envelope} (h0 : byteAt b n = natByte v.limits.frontCap)
    (h1 : byteAt b (n + 1) = natByte v.limits.rearCap) (h2 : byteAt b (n + 2) = natByte v.limits.speedCap)
    (h3 : byteAt b (n + 3) = allowanceByte v) : ShowsLimits b n v := by
  have h := codeAboveAllowances_shows v.limits.regen v.limits.frontDrive v.limits.rearDrive (BitVec.ofNat 3 v.severity)
  rw [← natByte_mod_eight] at h
  exact ⟨h0, h1, h2, by rw [h3]; exact h⟩

/-- The first byte of a drive port's adoption record (Table 11.8). -/
def adoptionByte (d : DrivePort) (s : State) : Byte :=
  let v := s.unit.adoption.get d
  flagByte [portRequired s d, v.pending] ||| (natByte (timerCode s.osc.part v.deadline) <<< 2) |||
    flagByte [false, false, false, false, v.latch, v.lastAdopted.isSome]

theorem showsAdoption_adoptionBytes {b : List Byte} {n : Nat} {d : DrivePort} {s : State}
    (h0 : byteAt b n = adoptionByte d s)
    (h1 : byteAt b (n + 1) = lowByte ((s.unit.adoption.get d).lastAdopted.getD 0#16))
    (h2 : byteAt b (n + 2) = highByte ((s.unit.adoption.get d).lastAdopted.getD 0#16))
    (h3 : byteAt b (n + 3) = natByte ((s.unit.adoption.get d).deadline.getD 0)) :
    ShowsAdoption b n (portRequired s d) s.osc.part (s.unit.adoption.get d) := by
  have h := codeBetweenFlags_shows (portRequired s d) (s.unit.adoption.get d).pending (s.unit.adoption.get d).latch
    (s.unit.adoption.get d).lastAdopted.isSome (timerBits s.osc.part (s.unit.adoption.get d).deadline)
  rw [← natByte_timerCode] at h
  obtain ⟨b0, b1, b2, b4, b5, b6⟩ := h
  unfold ShowsAdoption word16At
  rw [h0, h1, h2, h3]
  exact ⟨b0, b1, b2, b4, b5, b6, byte_append_halfBytes _, rfl⟩

/-- The payload that READ_ENVELOPE answers (Table 11.8). -/
def envelopePayload (s : State) : List Byte := (readEnvelope s).payload

/-- Settles O10: each part of the payload by the lemma about its bytes. -/
theorem readEnvelopeShowsTheUnit : Obligations.ReadEnvelopeShowsTheUnit := by
  unfold Obligations.ReadEnvelopeShowsTheUnit
  intro p s hL r u
  obtain ⟨t, ht, ha⟩ := answered_of_act (i := .readEnvelope p) (b := envelopePayload r) hL rfl (by simp) rfl
    (show readEnvelope r = { state := r, status := .ok, payload := envelopePayload r } from rfl)
  have hreply : (t.ports.get p).reply.map (·.generation) = some u.generation := by
    rw [show t = _ from ha]
    simp [u]
  obtain ⟨d0, d1, d2, d3, d4⟩ := flagByte_four_shows u.target.overflowDemand u.target.cuts.front u.target.cuts.rear
    u.target.cuts.supply
  have houtputs := codeAboveFlags_shows r.permit.outputs.frontEn r.permit.outputs.rearEn r.permit.outputs.regenEn
    r.permit.outputs.packTrip (timerBits r.osc.part u.dwell)
  rw [← natByte_timerCode] at houtputs
  obtain ⟨o0, o1, o2, o3, o4, o6⟩ := houtputs
  refine ⟨envelopePayload r, t, ht, ha, rfl, hreply, showsLimits_envelopeBytes rfl rfl rfl rfl,
    showsLimits_envelopeBytes rfl rfl rfl rfl, fun n hn => ?_, nibbles_low _ _, nibbles_high _ _, nibbles_low _ _,
    nibbles_high _ _, d0, d1, d2, d3, d4, o0, o1, o2, o3, o4, o6, byte_append_halfBytes _,
    showsAdoption_adoptionBytes (d := .front) rfl rfl rfl rfl, showsAdoption_adoptionBytes (d := .rear) rfl rfl rfl rfl⟩
  rw [← ruleBits_getLsbD _ hn]
  exact congrArg (·.getLsbD n) (byte_append_halfBytes (ruleBits u.target.matched))

end Sys2Proof.Machine
end

section
/-! What every command does to the Envelope Unit, the outputs, the part state and the health: one turn, before which the
unit stands as it was and after which its ENVELOPE notices stand too. The promises about the envelope are then a matter
of the turns alone. -/

namespace Sys2Proof.Machine

/-! ### Changes that leave the unit as it stands -/

/-- There is neither ballot nor trial. -/
def Vacant (r : RecoveryUnit) : Prop := r.ballot = none ∧ r.primary = none ∧ r.nested = none

/-- A change that leaves the target, the envelope and its adoption, the outputs, the part state, the health and overflow
as they are. -/
structure Steady (s t : State) : Prop where
  target : t.unit.target = s.unit.target
  envelope : t.unit.envelope = s.unit.envelope
  generation : t.unit.generation = s.unit.generation
  dwell : t.unit.dwell = s.unit.dwell
  adoption : t.unit.adoption = s.unit.adoption
  outputs : t.permit.outputs = s.permit.outputs
  part : t.osc.part = s.osc.part
  health : t.map.health = s.map.health
  overflow : t.table.overflow = s.table.overflow

theorem Steady.refl (s : State) : Steady s s := ⟨rfl, rfl, rfl, rfl, rfl, rfl, rfl, rfl, rfl⟩

theorem Steady.trans {s t u : State} (h : Steady s t) (k : Steady t u) : Steady s u where
  target := k.target.trans h.target
  envelope := k.envelope.trans h.envelope
  generation := k.generation.trans h.generation
  dwell := k.dwell.trans h.dwell
  adoption := k.adoption.trans h.adoption
  outputs := k.outputs.trans h.outputs
  part := k.part.trans h.part
  health := k.health.trans h.health
  overflow := k.overflow.trans h.overflow

/-- A change outside the Envelope Unit. -/
theorem Steady.of_unit {s t : State} (unit : t.unit = s.unit) (outputs : t.permit.outputs = s.permit.outputs)
    (part : t.osc.part = s.osc.part) (health : t.map.health = s.map.health)
    (overflow : t.table.overflow = s.table.overflow) : Steady s t where
  target := by rw [unit]
  envelope := by rw [unit]
  generation := by rw [unit]
  dwell := by rw [unit]
  adoption := by rw [unit]
  outputs := outputs
  part := part
  health := health
  overflow := overflow

theorem Steady.portInService {s t : State} (h : Steady s t) (p : Port) : portInService t p = portInService s p := by
  rw [Machine.portInService, h.health, Machine.portInService]

theorem Steady.portRequired {s t : State} (h : Steady s t) (d : DrivePort) : portRequired t d = portRequired s d := by
  rw [Machine.portRequired, h.part, h.portInService, Machine.portRequired]

/-- A steady change that brings no ballot and no trial where there was none. -/
structure Settled (s t : State) : Prop extends Steady s t where
  vacant : Vacant s.recovery → Vacant t.recovery

theorem Settled.refl (s : State) : Settled s s := ⟨.refl s, id⟩

theorem Settled.trans {s t u : State} (h : Settled s t) (k : Settled t u) : Settled s u :=
  ⟨h.toSteady.trans k.toSteady, k.vacant ∘ h.vacant⟩

theorem Settled.of_unit {s t : State} (unit : t.unit = s.unit) (outputs : t.permit.outputs = s.permit.outputs)
    (part : t.osc.part = s.osc.part) (health : t.map.health = s.map.health)
    (overflow : t.table.overflow = s.table.overflow) (vacant : Vacant s.recovery → Vacant t.recovery) :
    Settled s t := ⟨.of_unit unit outputs part health overflow, vacant⟩

/-- The ENVELOPE notice stands on every port as it did. -/
def SameEnvelopeNotices (s t : State) : Prop :=
  ∀ p, (t.ports.get p).notices.envelope = (s.ports.get p).notices.envelope

/-- A change that leaves the unit and its ENVELOPE notices as they are. -/
structure Still (s t : State) : Prop extends Settled s t where
  notices : SameEnvelopeNotices s t

theorem Still.refl (s : State) : Still s s := ⟨.refl s, fun _ => rfl⟩

theorem Still.trans {s t u : State} (h : Still s t) (k : Still t u) : Still s u :=
  ⟨h.toSettled.trans k.toSettled, fun p => (k.notices p).trans (h.notices p)⟩

theorem settled_setPort (p : Port) (v : LinkPort) (s : State) : Settled s (setPort p v s) :=
  .of_unit rfl rfl rfl rfl rfl id

theorem settled_onNotices (p : Port) (f : NoticeSet → NoticeSet) (s : State) : Settled s (onNotices p f s) :=
  .of_unit rfl rfl rfl rfl rfl id

theorem settled_disarmFrom (p : Port) (s : State) : Settled s (disarmFrom p s) :=
  .of_unit (by simp) (by simp) (by simp) (by simp) (by simp) (by simp)

theorem settled_setContact (p : Port) (t : Timer) (s : State) : Settled s (setContact p t s) :=
  .of_unit rfl rfl rfl rfl rfl id

theorem settled_setFloorOf (p : Port) (f : Option ProfileId) (s : State) : Settled s (setFloorOf p f s) :=
  ⟨⟨rfl, rfl, rfl, rfl, rfl, rfl, rfl, rfl, rfl⟩, id⟩

theorem settled_setBudget (e : Element) (n : Nat) (s : State) : Settled s (setBudget e n s) :=
  .of_unit rfl rfl rfl rfl rfl id

theorem settled_postTrial (e : Element) (o : TrialOutcome) (s : State) : Settled s (postTrial e o s) :=
  .of_unit rfl rfl rfl rfl rfl id

theorem settled_setLine (l : FaultLine) (v : LineFilter) (s : State) : Settled s (setLine l v s) :=
  .of_unit rfl rfl rfl rfl rfl id

theorem settled_setArm (v : Bool) (s : State) : Settled s (setArm v s) := .of_unit rfl rfl rfl rfl rfl id

theorem settled_unlockEntry (e : Element) (s : State) : Settled s (unlockEntry e s) := .of_unit rfl rfl rfl rfl rfl id

theorem settled_countMismatches (v : Readback) (s : State) : Settled s (countMismatches v s) :=
  .of_unit rfl rfl rfl rfl rfl id

theorem settled_setImage (image : List Byte) (s : State) : Settled s { s with osc.image := image } :=
  .of_unit rfl rfl rfl rfl rfl id

theorem settled_closeBallot (o : Option TrialOutcome) (s : State) : Settled s (closeBallot o s) :=
  .of_unit (by simp) (by simp) (by simp) (by simp) (by simp)
    fun ⟨_, hprimary, hnested⟩ => ⟨closeBallot_ballot o s, by simpa using hprimary, by simpa using hnested⟩

theorem settled_foldl {α : Type} {f : State → α → State} (hf : ∀ a s, Settled s (f s a)) (as : List α) (s : State) :
    Settled s (as.foldl f s) := by
  induction as generalizing s with
  | nil => exact .refl s
  | cons a as ih => exact (hf a s).trans (ih (f s a))

theorem steady_setBallot (b : Option Ballot) (s : State) : Steady s (setBallot b s) := .of_unit rfl rfl rfl rfl rfl

theorem steady_trialPlaced (slot : TrialSlot) (e : Element) (s : State) : Steady s (trialPlaced slot e s) :=
  .of_unit (by simp) (by cases slot <;> rfl) (by simp) (by simp) (by simp)

/-- A ballot that is opened or answered and closes at once brings none where there was none. -/
theorem settled_closed_of_setBallot {s u : State} {b : Option Ballot} (hu : Steady (setBallot b s) u)
    (hprimary : u.recovery.primary = s.recovery.primary) (hnested : u.recovery.nested = s.recovery.nested)
    (o : Option TrialOutcome) : Settled s (closeBallot o u) :=
  ⟨(steady_setBallot b s).trans (hu.trans (settled_closeBallot o u).toSteady),
    fun ⟨_, hp, hn⟩ => ⟨closeBallot_ballot o u, by simp [hprimary, hp], by simp [hnested, hn]⟩⟩

/-- A change of a port that leaves its ENVELOPE notice. -/
theorem still_setPort {p : Port} {v : LinkPort} {s : State}
    (h : v.notices.envelope = (s.ports.get p).notices.envelope) : Still s (setPort p v s) := by
  refine ⟨settled_setPort p v s, fun q => ?_⟩
  rw [setPort_ports, PerPort.get_set]
  split
  case isTrue hq => rw [hq, h]
  case isFalse => rfl

theorem still_sendReply (p : Port) (code : Byte) (t : Taken) : Still t.state (sendReply p code t) := still_setPort rfl

theorem still_ballotNotice (p : Port) (n : Option Element) (s : State) :
    Still s (onNotices p (fun v => { v with ballot := n }) s) := still_setPort rfl

theorem still_postBallot (asked : PortSet) (e : Element) (s : State) : Still s (postBallot asked e s) := by
  unfold postBallot
  generalize portsIn asked = ps
  induction ps generalizing s with
  | nil => exact .refl s
  | cons p ps ih => exact (still_ballotNotice p _ s).trans (ih _)

theorem still_supervise (p : Port) (s : State) : Still s (supervise p s) :=
  ⟨.of_unit (by simp) (by simp) (by simp) (by simp) (by simp) (by simp), fun _ => by simp⟩

theorem still_evaluatePrimary (s : State) : Still s (evaluatePrimary s) := by
  refine ⟨.of_unit (by simp) (by simp) (by simp) (by simp) (by simp) fun ⟨hballot, hprimary, hnested⟩ => ?_,
    fun p => by rw [evaluatePrimary_notices]⟩
  exact ⟨by simpa using hballot, by rw [evaluatePrimary_primary, hprimary]; rfl, by simpa using hnested⟩

/-- The end of a trial, before its claim, brings no trial where there was none. -/
theorem still_trialEnded (slot : TrialSlot) (e : Element) (o : TrialOutcome) (s : State) :
    Still s (trialEnded slot e o s) := by
  refine ⟨.of_unit (by simp) ?_ (by simp) (by simp) (by simp) fun ⟨hballot, hprimary, hnested⟩ => ?_, fun p => ?_⟩
  · cases slot <;> rfl
  · refine ⟨by simpa using hballot, ?_, by simp⟩
    cases slot <;> simp [remainingTrial, hprimary, hnested]
  · rw [trialEnded_port]

theorem still_scored (r : FaultReport) (s : State) : Still s (scored r s) :=
  ⟨.of_unit rfl rfl rfl rfl rfl id, fun _ => rfl⟩

theorem still_recordConfirmed (e : Element) (c : FaultClass) (s : State) : Still s (recordConfirmed e c s) := by
  refine ⟨.of_unit (by simp) (by rw [recordConfirmed_eq]) (by simp) (by simp) (by simp) (by simp), fun p => ?_⟩
  rw [recordConfirmed_port]

theorem still_voidIfNamed (e : Element) (s : State) : Still s (voidIfNamed e s) := by
  rw [voidIfNamed_eq_closedWith]
  generalize (if s.recovery.ballot.any (·.element == e) then some (e, TrialOutcome.voided .confirmed) else none) = n
  have same : (closedWith n s).osc = s.osc ∧ (closedWith n s).map = s.map ∧ (closedWith n s).table = s.table ∧
      (closedWith n s).recovery.primary = s.recovery.primary ∧ (closedWith n s).recovery.nested = s.recovery.nested := by
    cases n <;> exact ⟨rfl, rfl, rfl, rfl, rfl⟩
  obtain ⟨hosc, hmap, htable, hp, hn⟩ := same
  refine ⟨.of_unit (by simp) (by simp) (by rw [hosc]) (by rw [hmap]) (by rw [htable])
    fun ⟨hballot, hprimary, hnested⟩ => ⟨?_, hp.trans hprimary, hn.trans hnested⟩, fun p => by rw [closedWith_port]⟩
  rw [closedWith_ballot, hballot, ite_self]

/-! ### The turns -/

/-- A ballot may open or stand here: the part is in RUN, or a ballot stands already. -/
def Polled (s : State) : Prop := s.osc.part = .run ∨ s.recovery.ballot ≠ none

/-- What a command does to the Envelope Unit and what stands around it. -/
inductive Turn (i : Instr) (s : State) : State → Prop where
  | idle : Turn i s s
  | report (r : FaultReport) : Turn i s (handReport r s)
  | recompute : Turn i s (recompute s)
  | ballot (b : Ballot) (polled : Polled s) : Turn i s (setBallot (some b) s)
  | trial (slot : TrialSlot) (e : Element) (u : State) (closed : Settled s u) (polled : Polled s) :
      Turn i s (startTrial slot e u)
  | pass (slot : TrialSlot) (x : Trial) (isRun : s.osc.part = .run) : Turn i s (passTrial slot x s)
  | vote (p : Port) (isConfig : s.osc.part = .config) : Turn i s (enterStarting p s)
  | entry (isStarting : s.osc.part = .starting) : Turn i s (runEntry s)
  | window (isStarting : s.osc.part = .starting) : Turn i s (runEntry (startVoteReports s))
  | adopt (d : DrivePort) (asked : i = .adopt (portOfDrive d) s.unit.generation) (isRun : s.osc.part = .run)
      (serves : portInService s (portOfDrive d) = true) : Turn i s (adoptionTaken d s)
  | lapse (d : DrivePort) (isRun : s.osc.part = .run) :
      Turn i s (restartAdoption d (handReport (monitorReport (controllerOf (portOfDrive d)) .adoptionLapse)
        (setAdoption d { s.unit.adoption.get d with deadline := none } s)))
  | dwell (isRun : s.osc.part = .run) : Turn i s (changeEnvelope s.unit.target.env (setDwell none s))
  | failsafe (cause : Cause) : Turn i s (requestFailsafe cause s)
  | tick : Turn i s (tickTimers s)
  | reset (image : List Byte) (p : Port) (m : RetainedMap) (asked : isReset i = true) : Turn i s (resetBlocks image p m s)

/-- A command's effect on the Envelope Unit: one turn from the unit as it stands. -/
def OneTurn (i : Instr) (s t : State) : Prop := ∃ a b, Settled s a ∧ Turn i a b ∧ Still b t

theorem Settled.oneTurn {s t : State} (h : Settled s t) (i : Instr) : OneTurn i s t := ⟨t, t, h, .idle, .refl t⟩

theorem Turn.oneTurn {i : Instr} {s t : State} (h : Turn i s t) : OneTurn i s t := ⟨s, t, .refl s, h, .refl t⟩

theorem OneTurn.refl (i : Instr) (s : State) : OneTurn i s s := (Settled.refl s).oneTurn i

theorem OneTurn.after {i : Instr} {s t u : State} (h : OneTurn i t u) (k : Settled s t) : OneTurn i s u := by
  obtain ⟨a, b, ha, hab, hb⟩ := h
  exact ⟨a, b, k.trans ha, hab, hb⟩

theorem OneTurn.before {i : Instr} {s t u : State} (h : OneTurn i s t) (k : Still t u) : OneTurn i s u := by
  obtain ⟨a, b, ha, hab, hb⟩ := h
  exact ⟨a, b, ha, hab, hb.trans k⟩

/-! ### The link port's own turns -/

section
variable (i : Instr)

theorem discard_turn (p : Port) (k : LinkError) (s : State) : OneTurn i s (discard p k s) :=
  (Turn.report _).oneTurn.after ((settled_setPort _ _ _).trans (settled_disarmFrom _ _))

theorem overlapByte_turn (p : Port) (s : State) : OneTurn i s (overlapByte p s) := by
  unfold overlapByte
  split
  · exact .refl i s
  · exact discard_turn i p .overlap s

/-- The taking of a request is the turn of its owning block, or one of the link port's own. -/
theorem takeRequest_turn {p : Port} {code : Byte} {payload : List Byte} {disarms : Bool} {act : State → Taken}
    (h : ∀ u, OneTurn i u (act u).state) (s : State) : OneTurn i s (takeRequest p code payload disarms act s) := by
  have framed : Settled s (storeFrame p code payload s) := settled_setPort _ _ _
  have disarmed := framed.trans (settled_disarmFrom p _)
  unfold takeRequest
  split_ifs
  · exact .refl i s
  · exact overlapByte_turn i p s
  · exact discard_turn i p .length s
  · exact (disarmed.oneTurn i).before (still_sendReply p code (refuse .unknown _))
  · exact (disarmed.oneTurn i).before (still_sendReply p code (refuse .range _))
  · exact ((h _).before (still_sendReply _ _ _)).after disarmed
  · exact ((h _).before (still_sendReply _ _ _)).after framed

theorem unknownRequest_turn (p : Port) (code : Byte) (payload : List Byte) (s : State) :
    OneTurn i s (unknownRequest p code payload s) := by
  unfold unknownRequest
  split
  · exact .refl i s
  · exact takeRequest_turn i (OneTurn.refl i) s

theorem frameDiscard_turn (p : Port) (kind : FrameError) (s : State) : OneTurn i s (frameDiscard p kind s) := by
  unfold frameDiscard
  split
  · exact overlapByte_turn i p s
  · exact .refl i s
  · exact .refl i s
  · exact discard_turn i p _ s
  · exact discard_turn i p _ s

theorem gapDiscard_turn (p : Port) (s : State) : OneTurn i s (gapDiscard p s) := by
  unfold gapDiscard
  split
  · exact discard_turn i p .gap s
  · exact .refl i s

theorem settled_endReply (p : Port) (s : State) : Settled s (endReply p s) := by
  unfold endReply
  split
  · exact settled_setPort _ _ _
  · exact .refl s

theorem startFrame_turn (p : Port) (b : Byte) (s : State) : OneTurn i s (startFrame p b s) := by
  unfold startFrame
  split
  · exact (settled_setPort _ _ _).oneTurn i
  · exact .refl i s
  · exact overlapByte_turn i p s

/-! ### The turns of the owning blocks -/

theorem readNotice_turn (p : Port) (s : State) : OneTurn i s (readNotice p s).state :=
  (settled_onNotices p (fun v => (nextNotice s.recovery v).2) s).oneTurn i

theorem checkIn_turn (p : Port) (s : State) : OneTurn i s (checkIn p s).state := by
  unfold checkIn
  split_ifs
  · exact .refl i s
  · exact (settled_setContact _ _ s).oneTurn i
  · exact .refl i s

theorem report_turn (p : Port) (e c : Byte) (detail : Option Half) (s : State) :
    OneTurn i s (report p e c detail s).state := by
  rcases report_state p e c detail s with h | ⟨e', c', h⟩ <;> rw [h]
  · exact .refl i s
  · exact (Turn.report _).oneTurn

theorem setFloor_turn (p : Port) (profile : Byte) (s : State) : OneTurn i s (setFloor p profile s).state := by
  rcases setFloor_state p profile s with h | ⟨f, h⟩ <;> rw [h]
  · exact .refl i s
  · exact Turn.recompute.oneTurn.after (settled_setFloorOf p f s)

theorem adopt_turn (p : Port) (g : Half) (s : State) : OneTurn (.adopt p g) s (adopt p g s).state := by
  rcases adopt_cases p g s with h | ⟨d, rfl, rfl, hrun, hserves, h⟩ <;> rw [h]
  · exact .refl _ s
  · exact (Turn.adopt d rfl hrun hserves).oneTurn

/-- The passing of a ballot that stood open, or opens with its requester's answer alone (R119, R123). -/
theorem passBallot_turn {b : Ballot} {s u : State} (closes : ∀ o, Settled s (closeBallot o u)) (hp : Polled s) :
    OneTurn i s (passBallot b u).state := by
  unfold passBallot
  split
  · exact (Turn.trial _ _ _ (closes none) hp).oneTurn
  · exact (closes (some (.voided .noSlot))).oneTurn i

theorem openBallot_turn (p : Port) (e : Element) {s : State} (hp : Polled s) : OneTurn i s (openBallot p e s).state := by
  unfold openBallot
  dsimp only
  split
  · exact passBallot_turn i (settled_closed_of_setBallot (.refl _) rfl rfl) hp
  · exact (Turn.ballot _ hp).oneTurn.before (still_postBallot _ _ _)

/-- Outside RUN a RELEASE is refused (Table 7.4, checks 1 and 2). -/
theorem release_of_not_run {s : State} (h : s.osc.part ≠ .run) (p : Port) (element : Byte) :
    (release p element s).state = s := by
  unfold release
  split
  · rfl
  · rfl
  · rfl
  · exact absurd ‹_› h

theorem release_turn (p : Port) (element : Byte) (s : State) : OneTurn i s (release p element s).state := by
  by_cases hrun : s.osc.part = .run
  · rcases release_state p element s with h | ⟨e, h⟩ <;> rw [h]
    · exact .refl i s
    · exact openBallot_turn i p e (.inl hrun)
  · rw [release_of_not_run hrun]
    exact .refl i s

theorem answerBallot_turn (p : Port) (b : Ballot) {s : State} (hp : Polled s) :
    OneTurn i s (answerBallot p b s).state := by
  unfold answerBallot
  split
  · exact .refl i s
  · dsimp only
    split
    · exact passBallot_turn i (settled_closed_of_setBallot (settled_onNotices _ _ _).toSteady rfl rfl) hp
    · exact (Turn.ballot _ hp).oneTurn.before (still_ballotNotice p none _)

theorem consent_turn (p : Port) (element : Byte) (s : State) : OneTurn i s (consent p element s).state := by
  unfold consent
  split
  · exact .refl i s
  · rename_i b hb
    obtain ⟨hopen, -⟩ := askedBallot_ok hb
    exact answerBallot_turn i p b (.inr (by rw [hopen]; exact Option.some_ne_none b))

theorem veto_turn (p : Port) (element : Byte) (s : State) : OneTurn i s (veto p element s).state := by
  unfold veto
  split
  · exact .refl i s
  · exact (settled_closeBallot (some .vetoed) s).oneTurn i

/-- The first START begins the vote; a later one joins it, and the last is followed by RUN entry (R168, R169). -/
theorem acceptStart_turn (p : Port) {s : State} (hp : s.osc.part = .config ∨ s.osc.part = .starting) :
    OneTurn i s (acceptStart p s) := by
  have joined : Settled s (supervise p (joinStarted p s)) :=
    Settled.trans (t := joinStarted p s) (.of_unit rfl rfl rfl rfl rfl id) (still_supervise p _).toSettled
  unfold acceptStart
  dsimp only
  split_ifs with hc
  · exact (Turn.vote p hc).oneTurn.before (still_supervise p _)
  · exact .refl i s
  · exact (Turn.entry (joined.part.trans (hp.resolve_left hc))).oneTurn.after joined
  · exact joined.oneTurn i

theorem start_turn (p : Port) (named : Half) (s : State) : OneTurn i s (start p named s).state := by
  unfold start
  split_ifs with hf hr
  · exact .refl i s
  · exact .refl i s
  · exact .refl i s
  · refine acceptStart_turn i p ?_
    revert hf hr
    cases s.osc.part <;> simp

theorem acceptWrite_turn (k : Sect) (n : Nat) (entry : List Byte) (s : State) :
    OneTurn i s (acceptWrite k n entry s) := by
  have written := settled_setImage (putEntry s.osc.image k n entry) s
  unfold acceptWrite afterWrite
  split
  · split
    · exact (written.trans (settled_setBudget _ _ _)).oneTurn i
    · exact written.oneTurn i
  · exact Turn.recompute.oneTurn.after written
  · exact Turn.recompute.oneTurn.after written
  all_goals exact written.oneTurn i

theorem writeConfig_turn (p : Port) (k n : Byte) (entry : List Byte) (s : State) :
    OneTurn i s (writeConfig p k n entry s).state := by
  rcases writeConfig_state p k n entry s with h | ⟨k, n, -, -, h⟩ <;> rw [h]
  · exact .refl i s
  · exact acceptWrite_turn i k n entry s

theorem serviceArm_turn (p : Port) (s : State) : OneTurn i s (serviceArm p s).state := by
  rcases serviceArm_state p s with h | h <;> rw [h]
  · exact .refl i s
  · exact (settled_setArm true s).oneTurn i

theorem serviceClear_turn (p : Port) (which : Byte) (s : State) : OneTurn i s (serviceClear p which s).state := by
  rcases serviceClear_state p which s with h | ⟨es, h⟩ <;> rw [h]
  · exact .refl i s
  · exact ((settled_setArm false s).trans (settled_foldl settled_unlockEntry es _)).oneTurn i

/-! ### The turns of the timers and the samples -/

theorem settled_decayExpiry (e : Element) (c : FaultClass) (s : State) : Settled s (decayExpiry e c s) := by
  unfold decayExpiry
  split
  · exact .refl s
  · split
    · unfold takeDecay
      dsimp only
      split <;> exact .of_unit rfl rfl rfl rfl rfl id
    · exact .refl s

theorem checkInDeadlineExpiry_turn (p : Port) (s : State) : OneTurn i s (checkInDeadlineExpiry p s) := by
  unfold checkInDeadlineExpiry
  split
  · exact (Turn.report _).oneTurn.after (settled_setContact _ _ s)
  · exact .refl i s

theorem dwellExpiry_turn (s : State) : OneTurn i s (dwellExpiry s) := by
  unfold dwellExpiry
  split_ifs with hg
  · simp only [inRun, Bool.and_eq_true, beq_iff_eq] at hg
    exact (Turn.dwell hg.1).oneTurn
  · exact .refl i s

theorem adoptionDeadlineExpiry_turn (d : DrivePort) (s : State) : OneTurn i s (adoptionDeadlineExpiry d s) := by
  unfold adoptionDeadlineExpiry
  split_ifs with hg
  · simp only [inRun, Bool.and_eq_true, beq_iff_eq] at hg
    exact (Turn.lapse d hg.1).oneTurn
  · exact .refl i s

theorem settled_ballotWindowExpiry (s : State) : Settled s (ballotWindowExpiry s) := by
  unfold ballotWindowExpiry
  split
  · exact .refl s
  · split
    · exact settled_closeBallot _ s
    · exact .refl s

theorem trialExpiry_turn (slot : TrialSlot) (s : State) : OneTurn i s (trialExpiry slot s) := by
  unfold trialExpiry
  split
  · exact .refl i s
  · split_ifs with hg
    · simp only [inRun, Bool.and_eq_true, beq_iff_eq] at hg
      exact (Turn.pass slot _ hg.1.1).oneTurn
    · exact .refl i s

theorem startWindowExpiry_turn (s : State) : OneTurn i s (startWindowExpiry s) := by
  unfold startWindowExpiry
  split_ifs with hg
  · simp only [Bool.and_eq_true, beq_iff_eq] at hg
    exact (Turn.window hg.1).oneTurn
  · exact .refl i s

theorem integrityCheckExpiry_turn (s : State) : OneTurn i s (integrityCheckExpiry s) := by
  have reloaded : Settled s { s with osc.integrity := some integrityPeriod } := .of_unit rfl rfl rfl rfl rfl id
  unfold integrityCheckExpiry
  split
  · unfold checkIntegrity
    split
    · exact reloaded.oneTurn i
    · exact (Turn.failsafe _).oneTurn.after reloaded
  · exact .refl i s

theorem sampleLevel_turn (l : FaultLine) (high : Bool) (s : State) : OneTurn i s (sampleLevel l high s) := by
  unfold sampleLevel
  dsimp only
  split
  · exact (Turn.report _).oneTurn.after (settled_setLine _ _ s)
  · exact (settled_setLine _ _ s).oneTurn i

theorem sampleEdge_turn (l : FaultLine) (high : Bool) (s : State) : OneTurn i s (sampleEdge l high s) := by
  unfold sampleEdge
  dsimp only
  split
  · exact (settled_setLine _ _ s).oneTurn i
  · split
    · exact (Turn.report _).oneTurn.after (settled_setLine _ _ s)
    · exact (settled_setLine _ _ s).oneTurn i

theorem sampleLine_turn (l : FaultLine) (high : Bool) (s : State) : OneTurn i s (sampleLine l high s) := by
  unfold sampleLine
  split
  · split
    · exact sampleLevel_turn i l high s
    · exact sampleEdge_turn i l high s
  · exact .refl i s

/-- An event that a line's sample would bring about is that sample, or does not take place. -/
theorem sampleLine_or_idle_turn (taken : Prop) [Decidable taken] (l : FaultLine) (high : Bool) (s : State) :
    OneTurn i s (if taken then sampleLine l high s else s) := by
  split
  · exact sampleLine_turn i l high s
  · exact .refl i s

theorem sampleReadback_turn (first : DrivePort) (v : Readback) (s : State) : OneTurn i s (sampleReadback first v s) := by
  have counted := settled_countMismatches v s
  rcases sampleReadback_cases first v s with h | ⟨d, -, h⟩ <;> rw [h]
  · exact counted.oneTurn i
  · exact (Turn.failsafe _).oneTurn.after counted

theorem readbackMismatch_turn (m : ThirdMismatch) (s : State) : OneTurn i s (readbackMismatch m s) := by
  unfold readbackMismatch
  split
  · exact sampleReadback_turn i _ _ s
  · exact .refl i s

theorem tick_turn (s : State) : OneTurn i s (tick s) := by
  have counted : Settled s (tickUptime s) := .of_unit rfl rfl rfl rfl rfl id
  unfold tick
  split
  · exact counted.oneTurn i
  · exact Turn.tick.oneTurn.after counted

theorem settled_corruptImage (k : Nat) (b : Byte) (s : State) : Settled s (corruptImage k b s) := by
  unfold corruptImage
  split
  · exact settled_setImage _ s
  · exact .refl s

theorem unlessHeld_turn {f : State → State} {s : State} (h : OneTurn i s (f s)) : OneTurn i s (unlessHeld f s) := by
  unfold unlessHeld
  split
  · exact .refl i s
  · exact h

end

/-- Every command takes one turn. -/
theorem exec_turn {i : Instr} {s t : State} (h : exec i s = .next t) : OneTurn i s t := by
  have reads : ∀ {p : Port} {code : Byte} {payload : List Byte} {disarms : Bool} {act : State → Taken},
      (∀ u, (act u).state = u) → OneTurn i s (takeRequest p code payload disarms act s) :=
    fun h => takeRequest_turn i (fun u => by rw [h u]; exact .refl i u) s
  have event : ∀ {f : State → State}, Settled s (f s) → OneTurn i s (unlessHeld f s) :=
    fun h => unlessHeld_turn i (h.oneTurn i)
  cases i <;> obtain rfl := Host.Outcome.next.inj h
  case readStatus p page => exact reads (readStatus_state p page)
  case readEnvelope p => exact reads fun _ => rfl
  case readElement p n => exact reads (readElement_state n)
  case readFault p n => exact reads (readFault_state n)
  case readRetained p n => exact reads (readRetained_state n)
  case readNotice p => exact takeRequest_turn _ (readNotice_turn _ p) s
  case readConfig p k n => exact reads (readConfig_state k n)
  case checkIn p => exact takeRequest_turn _ (checkIn_turn _ p) s
  case report p e c detail => exact takeRequest_turn _ (report_turn _ p e c detail) s
  case setFloor p profile => exact takeRequest_turn _ (setFloor_turn _ p profile) s
  case adopt p generation => exact takeRequest_turn _ (adopt_turn p generation) s
  case release p element => exact takeRequest_turn _ (release_turn _ p element) s
  case consent p element => exact takeRequest_turn _ (consent_turn _ p element) s
  case veto p element => exact takeRequest_turn _ (veto_turn _ p element) s
  case start p named => exact takeRequest_turn _ (start_turn _ p named) s
  case writeConfig p k n entry => exact takeRequest_turn _ (writeConfig_turn _ p k n entry) s
  case serviceArm p => exact takeRequest_turn _ (serviceArm_turn _ p) s
  case serviceClear p which => exact takeRequest_turn _ (serviceClear_turn _ p which) s
  case unknownRequest p code payload => exact unknownRequest_turn _ p code payload s
  case frameDiscard p kind => exact unlessHeld_turn _ (frameDiscard_turn _ p kind s)
  case gapDiscard p => exact unlessHeld_turn _ (gapDiscard_turn _ p s)
  case replyComplete p => exact event (settled_endReply p s)
  case powerOnReset a b => exact (Turn.reset _ _ _ rfl).oneTurn
  case keyCycleReset => exact unlessHeld_turn _ (Turn.reset _ _ _ rfl).oneTurn
  case resetEnd =>
    split
    · exact (Settled.of_unit rfl rfl rfl rfl rfl id : Settled s (endReset s)).oneTurn _
    · exact .refl _ s
  case decayExpiry e c => exact event (settled_decayExpiry e c s)
  case checkInDeadlineExpiry p => exact unlessHeld_turn _ (checkInDeadlineExpiry_turn _ p s)
  case dwellExpiry => exact unlessHeld_turn _ (dwellExpiry_turn _ s)
  case adoptionDeadlineExpiry d => exact unlessHeld_turn _ (adoptionDeadlineExpiry_turn _ d s)
  case ballotWindowExpiry => exact event (settled_ballotWindowExpiry s)
  case trialExpiry slot => exact unlessHeld_turn _ (trialExpiry_turn _ slot s)
  case startWindowExpiry => exact unlessHeld_turn _ (startWindowExpiry_turn _ s)
  case integrityCheckExpiry => exact unlessHeld_turn _ (integrityCheckExpiry_turn _ s)
  case lineQualify l => exact unlessHeld_turn _ (sampleLine_or_idle_turn _ _ l _ s)
  case lineUnqualify l => exact unlessHeld_turn _ (sampleLine_or_idle_turn _ _ l _ s)
  case lineEdge l => exact unlessHeld_turn _ (sampleLine_or_idle_turn _ _ l _ s)
  case readbackMismatch m => exact unlessHeld_turn _ (readbackMismatch_turn _ m s)
  case svcDeasserted => exact event (.of_unit rfl rfl rfl rfl rfl id)
  case lineSample l high => exact unlessHeld_turn _ (sampleLine_turn _ l high s)
  case readbackSample first levels => exact unlessHeld_turn _ (sampleReadback_turn _ first levels s)
  case svcAsserted => exact event (.of_unit rfl rfl rfl rfl rfl id)
  case millisecondTick => exact unlessHeld_turn _ (tick_turn _ s)
  case configurationImageCorruption k b => exact event (settled_corruptImage k.val b s)
  case frameStart p b => exact unlessHeld_turn _ (startFrame_turn _ p b s)

/-- One step takes one turn, that of the command at the front of the queue, or idles. -/
theorem step_turn {s t : State} (h : step s = .next t) : t = s ∨ ∃ i, OneTurn i s t := by
  unfold step at h
  split at h
  · exact .inl (Host.Outcome.next.inj h).symm
  · rename_i i rest hq
    have front : Settled s { s with pending := rest } := .of_unit rfl rfl rfl rfl rfl id
    exact .inr ⟨i, (exec_turn h).after front⟩

end Sys2Proof.Machine
end

section
/-! Promises about the Envelope Unit that the announcements of a claim, a recompute and the setting of overflow keep: what
they say of reports, trials and RUN entry, once for all of them. -/

namespace Sys2Proof.Machine

/-! ### Reports and claims -/

/-- A claim that the part state admits: any in RUN, and before RUN one that starts no trial and returns no element. -/
def Fits (e : Element) (h : Health) (s : State) : Prop :=
  s.osc.part = .run ∨ (h ≠ .trial ∧ (isOut (s.map.health.get e) = true → isOut h = true))

/-- The promise stands through what a report can do. -/
structure UnitLaw (P : State → Prop) : Prop where
  settled : ∀ {s t}, Settled s t → P s → P t
  claimed : ∀ {e h s} (c : Option FaultClass), Fits e h s → P s → P (claimed e h c s)
  recompute : ∀ {s}, P s → P (recompute s)
  overflowed : ∀ {s}, Running s → P s → P (overflowed s)

theorem confirmedHealth_fits {h : Health} (hh : h ≠ .trial) (a : FaultAction) (retained : Bool) :
    confirmedHealth h a retained ≠ .trial ∧ (isOut h = true → isOut (confirmedHealth h a retained) = true) := by
  cases h <;> cases a <;> cases retained <;> simp_all [confirmedHealth, isOut]

theorem lockedOut_fits (e : Element) (s : State) : Fits e .lockedOut s := .inr ⟨by decide, fun _ => rfl⟩

/-- Overflow that is set already is not set again; otherwise its setting is a recompute (R29). -/
theorem overflowed_of_recompute {P : State → Prop} {s : State} (hs : P s)
    (h : P (recompute { s with table.overflow := true })) : P (overflowed s) := by
  unfold overflowed
  split
  · exact hs
  · exact h

/-- A trial's failure is one claim, of any health but TRIAL, between steps that leave the unit and its notices (R141). -/
theorem failTrial_claim (e : Element) (c : FaultClass) (recorded : Bool) (s : State) :
    ∃ u h, h ≠ .trial ∧ Still s u ∧ u.osc = s.osc ∧
      failTrial e c recorded s = evaluatePrimary (changeHealth e h (some c) u) := by
  have failed : ∀ u, Still s u → u.osc = s.osc → ∃ v h, h ≠ .trial ∧ Still s v ∧ v.osc = s.osc ∧
      evaluatePrimary (trialFailedClaim e c recorded u) = evaluatePrimary (changeHealth e h (some c) v) :=
    fun u hu hosc => ⟨setBudget e (u.map.budget.get e - 1) u, healthAfterFailure e c recorded u,
      healthAfterFailure_ne_trial e c recorded u, hu.trans ⟨settled_setBudget _ _ _, fun _ => rfl⟩, hosc, rfl⟩
  have posted : Still s (postTrial e .failed s) :=
    ⟨settled_postTrial _ _ _, fun p => by simp [postTrial]⟩
  unfold failTrial
  dsimp only
  split
  case h_1 slot _ => exact failed _ (still_trialEnded slot e .failed s) (trialEnded_osc slot e .failed s)
  case h_2 => exact failed _ posted rfl

section
variable {P : State → Prop} (H : UnitLaw P) {s : State} (hs : P s)
include H hs

theorem UnitLaw.changeHealth {e : Element} {h : Health} (c : Option FaultClass) (hf : Fits e h s) :
    P (changeHealth e h c s) := by
  by_cases hh : s.map.health.get e = h
  · rwa [changeHealth_same hh]
  · rw [changeHealth_of_ne hh]
    exact H.recompute (H.claimed c hf hs)

theorem UnitLaw.failTrial {e : Element} (ht : s.map.health.get e = .trial) (c : FaultClass) (recorded : Bool) :
    P (failTrial e c recorded s) := by
  obtain ⟨u, h, hh, hu, -, heq⟩ := failTrial_claim e c recorded s
  rw [heq]
  refine H.settled (still_evaluatePrimary _).toSettled (H.changeHealth (H.settled hu.toSettled hs) _ (.inr ⟨hh, ?_⟩))
  rw [hu.health, ht]
  exact nofun

theorem UnitLaw.confirmRecord (e : Element) (c : FaultClass) : P (confirmRecord e c s) := by
  have confirmed : Settled s (recordConfirmed e c s) := (still_recordConfirmed e c s).toSettled
  by_cases ht : s.map.health.get e = .trial
  · rw [confirmRecord_of_trial ht]
    exact H.failTrial (H.settled confirmed hs) (by rw [confirmed.health, ht]) c true
  · have voided := confirmed.trans (still_voidIfNamed e _).toSettled
    rw [confirmRecord_eq_changeHealth ht]
    refine H.changeHealth (H.settled voided hs) _ (.inr ?_)
    rw [voided.health]
    exact confirmedHealth_fits ht _ _

theorem UnitLaw.handReport (r : FaultReport) : P (handReport r s) := by
  have scored : P (scored r s) := H.settled (still_scored r s).toSettled hs
  rcases handReport_cases r s with h | ⟨-, -, h | ⟨-, h⟩⟩ | ⟨hrun, -, h⟩ <;> rw [h]
  · exact hs
  · exact scored
  · exact H.confirmRecord scored _ _
  · have overflowed := H.overflowed hrun hs
    rw [leaveUnrecorded_eq]
    split_ifs with ht
    · exact H.failTrial overflowed (by rw [(overflowed_parts s).1, ht]) _ false
    · exact overflowed

theorem UnitLaw.startVoteReports : P (startVoteReports s) := by
  unfold Machine.startVoteReports
  exact foldl_keeps (P := P) (f := fun s p => Machine.handReport (startVoteReport p) s)
    (fun _ _ hu => H.handReport hu _) _ hs

theorem UnitLaw.applyLockouts : P (applyLockouts s) := by
  refine foldl_keeps (P := P) (f := fun s e => runEntryLockout e s) (fun e u hu => ?_) allElements hs
  rw [runEntryLockout_eq]
  split
  · exact H.changeHealth hu _ (lockedOut_fits e u)
  · exact hu

theorem UnitLaw.passTrial (slot : TrialSlot) (x : Trial) : P (passTrial slot x s) := by
  have ended := still_trialEnded slot x.element .passed s
  refine H.settled (still_evaluatePrimary _).toSettled ?_
  show P (trialPassedClaim x.element (trialEnded slot x.element .passed s))
  unfold trialPassedClaim
  split_ifs with ht
  · refine H.changeHealth (H.settled ended.toSettled hs) none (.inr ⟨by decide, fun hout => ?_⟩)
    rw [ht] at hout
    cases hout
  · exact H.settled ended.toSettled hs

/-- RUN entry keeps the promise where its middle steps do: the envelope set at once, and the adoption round (R171). -/
theorem UnitLaw.runEntry (hp : s.osc.part = .starting)
    (entered : ∀ u, u.osc.part = .starting → P u → P (adoptionRound (firstEnvelope (enterRun u)))) :
    P (runEntry s) :=
  foldl_keeps (P := P) (f := fun s p => Machine.supervise p s) (fun p u hu => H.settled (still_supervise p u).toSettled hu)
    allPorts (entered _ (by simpa using hp) (H.applyLockouts hs))

end

/-- A trial start is its claim behind the record in its slot, or for an element that is not to be tried the record alone
(R135). -/
theorem startTrial_cases (slot : TrialSlot) (e : Element) (s : State) :
    startTrial slot e s = trialPlaced slot e s ∨ startTrial slot e s = changeHealth e .trial none (trialPlaced slot e s) := by
  show trialStartClaim e (trialPlaced slot e s) = _ ∨ trialStartClaim e (trialPlaced slot e s) = _
  unfold trialStartClaim
  split
  · exact .inr rfl
  · exact .inr rfl
  all_goals exact .inl rfl

/-! ### Promises of the unit alone -/

/-- The promise speaks of the unit and what stands around it alone, and every turn keeps it but for an ADOPT and a reset,
which some promises except. -/
structure UnitPromise (P : State → Prop) : Prop where
  steady : ∀ {s t}, Steady s t → P s → P t
  claimed : ∀ {s} (e : Element) (h : Health) (c : Option FaultClass), P s → P (claimed e h c s)
  recompute : ∀ {s}, P s → P (recompute s)
  overflowed : ∀ {s}, Running s → P s → P (overflowed s)
  vote : ∀ {s} (p : Port), s.osc.part = .config → P s → P (enterStarting p s)
  entered : ∀ {s}, s.osc.part = .starting → P s → P (adoptionRound (firstEnvelope (enterRun s)))
  deadline : ∀ {s} (d : DrivePort) (t : Timer), P s → P (setAdoption d { s.unit.adoption.get d with deadline := t } s)
  dwell : ∀ {s}, s.osc.part = .run → P s → P (changeEnvelope s.unit.target.env (setDwell none s))
  failsafe : ∀ {s} (cause : Cause), P s → P (requestFailsafe cause s)
  tick : ∀ {s}, P s → P (tickTimers s)

theorem UnitPromise.law {P : State → Prop} (H : UnitPromise P) : UnitLaw P where
  settled h := H.steady h.toSteady
  claimed c _ := H.claimed _ _ c
  recompute := H.recompute
  overflowed := H.overflowed

theorem UnitPromise.startTrial {P : State → Prop} (H : UnitPromise P) {s : State} (hs : P s) (slot : TrialSlot)
    (e : Element) : P (startTrial slot e s) := by
  have placed := H.steady (steady_trialPlaced slot e s) hs
  rcases startTrial_cases slot e s with h | h <;> rw [h]
  · exact placed
  · by_cases hh : (trialPlaced slot e s).map.health.get e = .trial
    · rwa [changeHealth_same hh]
    · rw [changeHealth_of_ne hh]
      exact H.recompute (H.claimed _ _ _ placed)

theorem UnitPromise.restartAdoption {P : State → Prop} (H : UnitPromise P) {s : State} (hs : P s) (d : DrivePort) :
    P (restartAdoption d s) := by
  unfold Machine.restartAdoption
  dsimp only
  split
  · exact H.deadline d _ hs
  · exact hs

/-- A turn keeps the promise, where an ADOPT and a reset do. -/
theorem UnitPromise.turn {P : State → Prop} (H : UnitPromise P) {i : Instr} {s t : State} (h : Turn i s t) (hs : P s)
    (adopts : ∀ d, i = .adopt (portOfDrive d) s.unit.generation → s.osc.part = .run →
      portInService s (portOfDrive d) = true → P (adoptionTaken d s))
    (resets : isReset i = true → ∀ image p m, P (resetBlocks image p m s)) : P t := by
  have law := H.law
  cases h with
  | idle => exact hs
  | report r => exact law.handReport hs r
  | recompute => exact law.recompute hs
  | ballot b polled => exact H.steady (steady_setBallot _ s) hs
  | trial slot e u closed polled => exact H.startTrial (law.settled closed hs) slot e
  | pass slot x isRun => exact law.passTrial hs slot x
  | vote p isConfig => exact H.vote p isConfig hs
  | entry isStarting => exact law.runEntry hs isStarting fun _ hu => H.entered hu
  | window isStarting =>
    exact law.runEntry (law.startVoteReports hs) (by simpa using isStarting) fun _ hu => H.entered hu
  | adopt d asked isRun serves => exact adopts d asked isRun serves
  | lapse d isRun => exact H.restartAdoption (law.handReport (H.deadline d none hs) _) d
  | dwell isRun => exact H.dwell isRun hs
  | failsafe cause => exact H.failsafe cause hs
  | tick => exact H.tick hs
  | reset image p m asked => exact resets asked image p m

/-- A command keeps the promise, where an ADOPT and a reset do. -/
theorem UnitPromise.oneTurn {P : State → Prop} (H : UnitPromise P) {i : Instr} {s t : State} (h : OneTurn i s t)
    (hs : P s)
    (adopts : ∀ d a, Settled s a → P a → i = .adopt (portOfDrive d) a.unit.generation → a.osc.part = .run →
      portInService a (portOfDrive d) = true → P (adoptionTaken d a))
    (resets : isReset i = true → ∀ image p m a, P (resetBlocks image p m a)) : P t := by
  obtain ⟨a, b, ha, hab, hb⟩ := h
  have hPa := H.law.settled ha hs
  exact H.law.settled hb.toSettled
    (H.turn hab hPa (fun d => adopts d a ha hPa) fun hr image p m => resets hr image p m a)

end Sys2Proof.Machine
end

section
/-! The envelope is no less tight than the target, and SAFE_STOP outside RUN (O46). -/

namespace Sys2Proof.Machine

/-! ### Envelope values compared -/

theorem noLooser_refl (v : Envelope) : NoLooser v v := ⟨le_rfl, le_rfl, le_rfl, id, id, id, le_rfl⟩

/-- The tighter of two values is no less tight than the second (R82). -/
theorem noLooser_tighter (v w : Envelope) : NoLooser (v.tighter w) w := by
  refine ⟨Nat.min_le_right _ _, Nat.min_le_right _ _, Nat.min_le_right _ _, ?_, ?_, ?_, Nat.le_max_right _ _⟩ <;>
    exact fun h => (Bool.and_eq_true_iff.mp h).2

/-- SAFE_STOP is no less tight than any value of a severity up to 7 (R82). -/
theorem noLooser_safeStop {v : Envelope} (h : v.severity ≤ 7) : NoLooser safeStop v :=
  ⟨Nat.zero_le _, Nat.zero_le _, Nat.zero_le _, nofun, nofun, nofun, h⟩

/-- No demand and no cut raises the severity above 7 (R73, R76). -/
theorem targetOf_severity_le (image : List Byte) (health : PerElement Health) (floors : PerPort (Option ProfileId))
    (overflow : Bool) : (targetOf image health floors overflow).env.severity ≤ 7 := by
  refine foldl_max_le ?_ fun k hk => ?_
  · split_ifs <;> decide
  · obtain ⟨f, -, rfl⟩ := List.mem_map.mp hk
    exact profileRank_le f

/-! ### The promise -/

theorem EnvelopeHolds.of_eq {s t : State} (h : EnvelopeHolds s) (envelope : t.unit.envelope = s.unit.envelope)
    (target : t.unit.target = s.unit.target) (part : t.osc.part = s.osc.part) : EnvelopeHolds t := by
  unfold EnvelopeHolds StoppedOutsideRun
  rw [envelope, target, part]
  exact h

/-- With the envelope at SAFE_STOP the promise holds of any target. -/
theorem envelopeHolds_of_stopped {s : State} (h : s.unit.envelope = safeStop) (ht : s.unit.target.env.severity ≤ 7) :
    EnvelopeHolds s := by
  unfold EnvelopeHolds StoppedOutsideRun
  rw [h]
  exact ⟨noLooser_safeStop ht, fun _ => rfl, ht, le_rfl⟩

/-- In RUN the promise holds of an envelope that has reached its target. -/
theorem envelopeHolds_of_reached {s : State} (hp : s.osc.part = .run) (h : s.unit.envelope = s.unit.target.env)
    (ht : s.unit.target.env.severity ≤ 7) : EnvelopeHolds s :=
  ⟨h ▸ noLooser_refl _, fun hr => absurd hp hr, ht, h ▸ ht⟩

/-- What the publishing step sets for a target that stands: nothing outside RUN; the target and no dwell where the dwell
time is 0; otherwise the tighter of the two, with a dwell while the target is not reached (R87, R88, R90). -/
theorem published_cases (s : State) :
    (s.osc.part ≠ .run ∧ publishedEnvelope s = s.unit.envelope ∧ publishedDwell s = s.unit.dwell) ∨
    (s.osc.part = .run ∧ publishedEnvelope s = s.unit.target.env ∧ publishedDwell s = none) ∨
    (s.osc.part = .run ∧ publishedEnvelope s = s.unit.envelope.tighter s.unit.target.env ∧
      ((publishedDwell s).isSome = true ↔ s.unit.envelope.tighter s.unit.target.env ≠ s.unit.target.env)) := by
  unfold publishedEnvelope publishedDwell
  by_cases hp : s.osc.part = .run
  · by_cases hd : (globalConfig s.osc.image).dwell = 0
    · exact .inr (.inl (by simp [hp, hd]))
    · refine .inr (.inr ⟨hp, by simp [hp, hd], ?_⟩)
      simp only [hp, hd, ne_eq, not_true, if_false]
      split_ifs with htight htarget htarget
      · rw [htight]
        simp [htarget]
      · rw [htight]
        simp [htarget]
      · simp [htarget]
      · simp [htarget]
  · exact .inl (by simp [hp])

/-- What a recompute leaves of the envelope and the dwell, by the target that it has computed. -/
theorem recompute_published (s : State) :
    (s.osc.part ≠ .run ∧ (recompute s).unit.envelope = s.unit.envelope ∧ (recompute s).unit.dwell = s.unit.dwell) ∨
    (s.osc.part = .run ∧ (recompute s).unit.envelope = (recompute s).unit.target.env ∧ (recompute s).unit.dwell = none) ∨
    (s.osc.part = .run ∧ (recompute s).unit.envelope = s.unit.envelope.tighter (recompute s).unit.target.env ∧
      ((recompute s).unit.dwell.isSome = true ↔ (recompute s).unit.envelope ≠ (recompute s).unit.target.env)) := by
  have htarget : (recompute s).unit.target = (computeTarget s).unit.target := recompute_unit_target s
  rw [recompute_unit_envelope, recompute_unit_dwell, htarget]
  rcases published_cases (computeTarget s) with h | h | ⟨hp, henv, hdwell⟩
  · exact .inl h
  · exact .inr (.inl h)
  · exact .inr (.inr ⟨hp, henv, henv ▸ hdwell⟩)

/-- A recompute in RUN publishes the target, or what is tighter than it; outside RUN the envelope stays SAFE_STOP (R79,
R87, R90). -/
theorem EnvelopeHolds.recompute {s : State} (h : EnvelopeHolds s) : EnvelopeHolds (recompute s) := by
  obtain ⟨-, hstopped, -, hle⟩ := h
  have ht : (Machine.recompute s).unit.target.env.severity ≤ 7 := by
    rw [recompute_unit_target]
    exact targetOf_severity_le _ _ _ _
  rcases recompute_published s with ⟨hp, henv, -⟩ | ⟨hp, henv, -⟩ | ⟨hp, henv, -⟩
  · exact envelopeHolds_of_stopped (henv.trans (hstopped hp)) ht
  · exact envelopeHolds_of_reached (by simpa using hp) henv ht
  · refine ⟨henv ▸ noLooser_tighter _ _, fun hr => absurd (by simpa using hp) hr, ht, ?_⟩
    rw [henv]
    exact Nat.max_le.mpr ⟨hle, ht⟩

/-- At RUN entry the envelope is set to the target (R85). -/
theorem runEntered_envelope (s : State) :
    (adoptionRound (firstEnvelope (enterRun s))).unit.envelope =
      (adoptionRound (firstEnvelope (enterRun s))).unit.target.env := by
  rw [adoptionRound_unit_envelope, adoptionRound_unit_target, firstEnvelope_envelope]

theorem runEntered_target (s : State) :
    (adoptionRound (firstEnvelope (enterRun s))).unit.target =
      targetOf s.osc.image s.map.health s.unit.floors s.table.overflow := by
  rw [adoptionRound_unit_target, firstEnvelope_target]
  rfl

theorem runEntered_part (s : State) : (adoptionRound (firstEnvelope (enterRun s))).osc.part = .run := by simp

/-- A FAILSAFE request leaves the unit as it is where it has no effect, and otherwise the envelope at SAFE_STOP (R86). -/
theorem requestFailsafe_cases (cause : Cause) (s : State) :
    (s.osc.part = .failsafe ∧ requestFailsafe cause s = s) ∨
    (s.osc.part ≠ .failsafe ∧ (requestFailsafe cause s).unit.envelope = safeStop) := by
  by_cases hp : s.osc.part = .failsafe
  · exact .inl ⟨hp, requestFailsafe_of_failsafe hp cause⟩
  · exact .inr ⟨hp, by rw [requestFailsafe_eq hp]⟩

theorem envelopeHolds_promise : UnitPromise EnvelopeHolds where
  steady h hs := hs.of_eq h.envelope h.target h.part
  claimed e h c hs := hs.of_eq (by simp) (by simp [claimed]) (by simp)
  recompute hs := hs.recompute
  overflowed _ hs := overflowed_of_recompute hs (EnvelopeHolds.recompute (hs.of_eq rfl rfl rfl))
  vote {s} p hp hs := envelopeHolds_of_stopped (hs.2.1 (by rw [hp]; decide)) hs.2.2.1
  entered {s} _ _ :=
    envelopeHolds_of_reached (runEntered_part s) (runEntered_envelope s) (by
      rw [runEntered_target]
      exact targetOf_severity_le _ _ _ _)
  deadline d t hs := hs.of_eq rfl rfl rfl
  dwell {s} hp hs := envelopeHolds_of_reached (by simpa using hp) (by simp) (by simpa using hs.2.2.1)
  failsafe {s} cause hs := by
    rcases requestFailsafe_cases cause s with ⟨-, h⟩ | ⟨-, h⟩
    · rwa [h]
    · exact envelopeHolds_of_stopped h (by simpa using hs.2.2.1)
  tick hs := hs.of_eq rfl rfl rfl

theorem EnvelopeHolds.oneTurn {i : Instr} {s t : State} (hs : EnvelopeHolds s) (h : OneTurn i s t) : EnvelopeHolds t :=
  envelopeHolds_promise.oneTurn h hs (fun _ _ _ ha _ _ _ => ha.of_eq rfl rfl rfl)
    fun _ _ _ _ _ => envelopeHolds_of_stopped rfl (targetOf_severity_le _ _ _ _)

/-- Settles O46: a step is one turn, and every turn keeps the promise. -/
theorem stepKeepsTheEnvelope : Obligations.StepKeepsTheEnvelope := by
  unfold Obligations.StepKeepsTheEnvelope
  intro s t hs hstep
  rcases step_turn hstep with rfl | ⟨i, hturn⟩
  · exact hs
  · exact hs.oneTurn hturn

end Sys2Proof.Machine
end

section
/-! The dwell runs in RUN exactly while the envelope differs from the target; and once overflow is set the envelope is
SAFE_STOP with no dwell (O55). -/

namespace Sys2Proof.Machine

/-! ### The dwell -/

theorem DwellAgrees.of_eq {s t : State} (h : DwellAgrees s) (dwell : t.unit.dwell = s.unit.dwell)
    (envelope : t.unit.envelope = s.unit.envelope) (target : t.unit.target = s.unit.target)
    (part : t.osc.part = s.osc.part) : DwellAgrees t := by
  unfold DwellAgrees
  rw [dwell, envelope, target, part]
  exact h

/-- In RUN no dwell runs where the envelope has reached its target. -/
theorem dwellAgrees_of_reached {s : State} (hp : s.osc.part = .run) (henv : s.unit.envelope = s.unit.target.env)
    (hd : s.unit.dwell = none) : DwellAgrees s := by
  unfold DwellAgrees
  rw [hp, hd]
  simp [henv]

theorem DwellAgrees.recompute {s : State} (h : DwellAgrees s) : DwellAgrees (recompute s) := by
  have hpart : (Machine.recompute s).osc.part = s.osc.part := by simp
  rcases recompute_published s with ⟨hp, -, hd⟩ | ⟨hp, henv, hd⟩ | ⟨hp, -, hd⟩
  · exact ⟨fun hr => absurd (hpart.symm.trans hr) hp, fun hr => hd.trans (h.2 (by rwa [hpart] at hr))⟩
  · exact dwellAgrees_of_reached (hpart.trans hp) henv hd
  · refine ⟨fun _ => hd, fun hr => ?_⟩
    rw [hpart, hp] at hr
    simp at hr

theorem dwellAgrees_promise : UnitPromise DwellAgrees where
  steady h hs := hs.of_eq h.dwell h.envelope h.target h.part
  claimed e h c hs := hs.of_eq (by simp) (by simp) (by simp [claimed]) (by simp)
  recompute hs := hs.recompute
  overflowed _ hs := overflowed_of_recompute hs (DwellAgrees.recompute (hs.of_eq rfl rfl rfl rfl))
  vote p hp hs := ⟨nofun, fun _ => hs.2 (.inl hp)⟩
  entered {s} _ _ :=
    dwellAgrees_of_reached (runEntered_part s) (runEntered_envelope s) (by
      rw [adoptionRound_unit_dwell, firstEnvelope_dwell])
  deadline d t hs := hs.of_eq rfl rfl rfl rfl
  dwell hp _ := dwellAgrees_of_reached (by simpa using hp) (by simp) (by simp)
  failsafe {s} cause _ := by
    unfold DwellAgrees
    rw [requestFailsafe_part]
    simp
  tick {s} hs := by
    refine ⟨fun hr => ?_, fun hr => ?_⟩
    · have hticked : (tickTimers s).unit.dwell.isSome = s.unit.dwell.isSome := Option.isSome_map
      rw [hticked]
      exact hs.1 hr
    · have hd : s.unit.dwell = none := hs.2 hr
      show tickTimer s.unit.dwell = none
      rw [hd]
      rfl

theorem DwellAgrees.oneTurn {i : Instr} {s t : State} (hs : DwellAgrees s) (h : OneTurn i s t) : DwellAgrees t :=
  dwellAgrees_promise.oneTurn h hs (fun _ _ _ ha _ _ _ => ha.of_eq rfl rfl rfl rfl)
    fun _ _ _ _ _ => ⟨nofun, fun _ => rfl⟩

/-! ### Overflow -/

/-- Overflow is set, the target and the envelope are SAFE_STOP, and no dwell runs (R91). -/
def Stopped (s : State) : Prop :=
  s.table.overflow = true ∧ s.unit.target.env = safeStop ∧ s.unit.envelope = safeStop ∧ s.unit.dwell = none

theorem Stopped.of_eq {s t : State} (h : Stopped s) (overflow : t.table.overflow = s.table.overflow)
    (target : t.unit.target = s.unit.target) (envelope : t.unit.envelope = s.unit.envelope)
    (dwell : t.unit.dwell = s.unit.dwell) : Stopped t := by
  unfold Stopped
  rw [overflow, target, envelope, dwell]
  exact h

theorem overflowStops_iff (s : State) : OverflowStops s ↔ (s.table.overflow = true → Stopped s) :=
  ⟨fun h ho => ⟨ho, h ho⟩, fun h ho => (h ho).2⟩

/-- SAFE_STOP is the tighter of itself and any value of a severity up to 7 (R82). -/
theorem tighter_safeStop {v : Envelope} (h : v.severity ≤ 7) : v.tighter safeStop = safeStop := by
  have hsev : max v.severity 7 = 7 := Nat.max_eq_right h
  simp only [Envelope.tighter, safeStop, tighter_safeStopLimits, hsev]

/-- A recompute with overflow set tightens the envelope at once and cancels a dwell (R87, R91). -/
theorem recompute_stopped {s : State} (ho : s.table.overflow = true) (hle : s.unit.envelope.severity ≤ 7)
    (hout : s.osc.part ≠ .run → s.unit.envelope = safeStop ∧ s.unit.dwell = none) : Stopped (recompute s) := by
  have ht : (recompute s).unit.target.env = safeStop := by rw [recompute_unit_target, ho, targetOf_overflow]
  refine ⟨by simpa using ho, ht, ?_⟩
  rcases recompute_published s with ⟨hp, henv, hd⟩ | ⟨-, henv, hd⟩ | ⟨-, henv, hd⟩
  · rw [henv, hd]
    exact hout hp
  · exact ⟨henv.trans ht, hd⟩
  · rw [ht, tighter_safeStop hle] at henv
    refine ⟨henv, ?_⟩
    rw [henv, ht] at hd
    simpa using hd

theorem Stopped.recompute {s : State} (h : Stopped s) : Stopped (recompute s) := by
  obtain ⟨ho, -, henv, hd⟩ := h
  exact recompute_stopped ho (by rw [henv]; decide) fun _ => ⟨henv, hd⟩

/-- RUN entry with overflow set finds SAFE_STOP as its target (R77, R85). -/
theorem runEntered_stopped {s : State} (ho : s.table.overflow = true) :
    Stopped (adoptionRound (firstEnvelope (enterRun s))) := by
  have ht : (adoptionRound (firstEnvelope (enterRun s))).unit.target.env = safeStop := by
    rw [runEntered_target, ho, targetOf_overflow]
  exact ⟨by simpa using ho, ht, (runEntered_envelope s).trans ht, by rw [adoptionRound_unit_dwell, firstEnvelope_dwell]⟩

theorem stopped_promise : UnitPromise Stopped where
  steady h hs := hs.of_eq h.overflow h.target h.envelope h.dwell
  claimed e h c hs := hs.of_eq (by simp) (by simp [claimed]) (by simp) (by simp)
  recompute hs := hs.recompute
  overflowed _ hs := by rwa [overflowed, if_pos hs.1]
  vote p _ hs := hs.of_eq rfl rfl rfl rfl
  entered _ hs := runEntered_stopped hs.1
  deadline d t hs := hs.of_eq rfl rfl rfl rfl
  dwell _ hs := ⟨by simpa using hs.1, by simpa using hs.2.1, by simpa using hs.2.1, by simp⟩
  failsafe {s} cause hs := by
    rcases requestFailsafe_cases cause s with ⟨-, h⟩ | ⟨-, h⟩
    · rwa [h]
    · exact ⟨by simpa using hs.1, by simpa using hs.2.1, h, by simpa using hs.2.2.2⟩
  tick {s} hs := ⟨hs.1, hs.2.1, hs.2.2.1, by
    show tickTimer s.unit.dwell = none
    rw [hs.2.2.2]
    rfl⟩

/-- The three promises that keep one another through the step that sets overflow. -/
def StopsOnOverflow (s : State) : Prop := EnvelopeHolds s ∧ DwellAgrees s ∧ (s.table.overflow = true → Stopped s)

theorem StopsOnOverflow.recompute {s : State} (h : StopsOnOverflow s) : StopsOnOverflow (recompute s) := by
  obtain ⟨henv, hdwell, hstop⟩ := h
  exact ⟨henv.recompute, hdwell.recompute, fun ho => (hstop (by simpa using ho)).recompute⟩

/-- The report that sets overflow is taken in STARTING, where no dwell runs, or in RUN, where its recompute stops the
envelope (R29, R91). -/
theorem StopsOnOverflow.overflowed {s : State} (h : StopsOnOverflow s) (hrun : Running s) :
    StopsOnOverflow (overflowed s) := by
  obtain ⟨henv, hdwell, hstop⟩ := h
  refine overflowed_of_recompute ⟨henv, hdwell, hstop⟩ ⟨EnvelopeHolds.recompute (henv.of_eq rfl rfl rfl),
    DwellAgrees.recompute (hdwell.of_eq rfl rfl rfl rfl), fun _ => recompute_stopped rfl henv.2.2.2 fun hp => ?_⟩
  exact ⟨henv.2.1 hp, hdwell.2 (.inr (hrun.resolve_right hp))⟩

theorem stopsOnOverflow_promise : UnitPromise StopsOnOverflow where
  steady h hs :=
    ⟨envelopeHolds_promise.steady h hs.1, dwellAgrees_promise.steady h hs.2.1,
      fun ho => stopped_promise.steady h (hs.2.2 (by rwa [h.overflow] at ho))⟩
  claimed e h c hs :=
    ⟨envelopeHolds_promise.claimed e h c hs.1, dwellAgrees_promise.claimed e h c hs.2.1,
      fun ho => stopped_promise.claimed e h c (hs.2.2 (by simpa using ho))⟩
  recompute hs := hs.recompute
  overflowed hrun hs := hs.overflowed hrun
  vote p hp hs :=
    ⟨envelopeHolds_promise.vote p hp hs.1, dwellAgrees_promise.vote p hp hs.2.1,
      fun ho => stopped_promise.vote p hp (hs.2.2 ho)⟩
  entered hp hs :=
    ⟨envelopeHolds_promise.entered hp hs.1, dwellAgrees_promise.entered hp hs.2.1,
      fun ho => runEntered_stopped (by simpa using ho)⟩
  deadline d t hs :=
    ⟨envelopeHolds_promise.deadline d t hs.1, dwellAgrees_promise.deadline d t hs.2.1,
      fun ho => stopped_promise.deadline d t (hs.2.2 ho)⟩
  dwell hp hs :=
    ⟨envelopeHolds_promise.dwell hp hs.1, dwellAgrees_promise.dwell hp hs.2.1,
      fun ho => stopped_promise.dwell hp (hs.2.2 (by simpa using ho))⟩
  failsafe cause hs :=
    ⟨envelopeHolds_promise.failsafe cause hs.1, dwellAgrees_promise.failsafe cause hs.2.1,
      fun ho => stopped_promise.failsafe cause (hs.2.2 (by simpa using ho))⟩
  tick hs :=
    ⟨envelopeHolds_promise.tick hs.1, dwellAgrees_promise.tick hs.2.1, fun ho => stopped_promise.tick (hs.2.2 ho)⟩

/-- Settles O55: the three promises together through the step that may set overflow, and SAFE_STOP alone while it is
set. -/
theorem stepKeepsOverflowStopped : Obligations.StepKeepsOverflowStopped := by
  unfold Obligations.StepKeepsOverflowStopped
  refine ⟨fun s t ⟨henv, hdwell, hstop⟩ hstep => ?_, fun i s t hstop ho hi hexec => ?_⟩
  · have hs : StopsOnOverflow s := ⟨henv, hdwell, (overflowStops_iff s).mp hstop⟩
    rcases step_turn hstep with rfl | ⟨i, hturn⟩
    · exact hstop
    · have ht : StopsOnOverflow t := stopsOnOverflow_promise.oneTurn hturn hs
        (fun _ _ _ ha _ _ _ => ⟨ha.1.of_eq rfl rfl rfl, ha.2.1.of_eq rfl rfl rfl rfl,
          fun ho => (ha.2.2 ho).of_eq rfl rfl rfl rfl⟩)
        fun _ _ _ _ _ => ⟨envelopeHolds_of_stopped rfl (targetOf_severity_le _ _ _ _), ⟨nofun, fun _ => rfl⟩, nofun⟩
      exact (overflowStops_iff t).mpr ht.2.2
  · have ht : Stopped t := stopped_promise.oneTurn (exec_turn hexec) ((overflowStops_iff s).mp hstop ho)
      (fun _ _ _ ha _ _ _ => ha.of_eq rfl rfl rfl rfl) fun hr => absurd hr (by simp [hi])
    exact ht.2.2

end Sys2Proof.Machine
end

section
/-! The outputs stand at the levels of Table 6.1, and a latch only for an allowed axle in RUN (O47); a drive permit rises
by an ADOPT alone (O59). -/

namespace Sys2Proof.Machine

/-! ### The latch of a drive port -/

/-- The permit latch of a drive port. -/
def latchOf (d : DrivePort) (s : State) : Bool := (s.unit.adoption.get d).latch

/-- The announcement of an element that goes out drops the latch of the drive port that it controls, and no other (R98). -/
theorem claimed_latch (e : Element) (h : Health) (c : Option FaultClass) (d : DrivePort) (s : State) :
    latchOf d (claimed e h c s) =
      (latchOf d s &&
        !(decide (controllerOf (portOfDrive d) = e) && (!isOut (s.map.health.get e) && isOut h))) := by
  show ((announce e (s.map.health.get e) h (setHealth e h s)).unit.adoption.get d).latch = _
  rw [announce_adoption]
  unfold latchOf
  by_cases hd : controllerOf (portOfDrive d) = e
  · cases isOut (s.map.health.get e) <;> cases isOut h <;> simp [hd]
  · simp [hd]

theorem changeEnvelope_latch (v : Envelope) (d : DrivePort) (s : State) :
    latchOf d (changeEnvelope v s) =
      if v = s.unit.envelope then latchOf d s else latchOf d s && axleAllowed v d := by
  unfold latchOf
  rw [changeEnvelope_adoption]
  split <;> rfl

theorem changeEnvelope_latch_clear {d : DrivePort} {s : State} (h : latchOf d s = false) (v : Envelope) :
    latchOf d (changeEnvelope v s) = false := by
  rw [changeEnvelope_latch, h, Bool.false_and, ite_self]

theorem recompute_latch_clear {d : DrivePort} {s : State} (h : latchOf d s = false) :
    latchOf d (recompute s) = false := by
  rw [recompute_eq]
  exact changeEnvelope_latch_clear (s := setDwell (publishedDwell (computeTarget s)) (computeTarget s)) h _

theorem adoptionRound_latch (d : DrivePort) (s : State) : latchOf d (adoptionRound s) = latchOf d s := by
  rw [latchOf, adoptionRound_adoption]
  rfl

theorem runEntered_latch {d : DrivePort} {s : State} (h : latchOf d s = false) :
    latchOf d (adoptionRound (firstEnvelope (enterRun s))) = false := by
  rw [adoptionRound_latch]
  exact changeEnvelope_latch_clear (s := setDwell none (computeTarget (enterRun s))) h
    (computeTarget (enterRun s)).unit.target.env

theorem setAdoption_latch (d k : DrivePort) (v : AdoptionRecord) (s : State) :
    latchOf k (setAdoption d v s) = if k = d then v.latch else latchOf k s := by
  rw [latchOf, setAdoption_unit_adoption, PerDrive.get_set]
  split <;> rfl

theorem deadline_latch (d k : DrivePort) (t : Timer) (s : State) :
    latchOf k (setAdoption d { s.unit.adoption.get d with deadline := t } s) = latchOf k s := by
  rw [setAdoption_latch]
  split
  case isTrue h => rw [h, latchOf]
  case isFalse => rfl

theorem requestFailsafe_latch {s : State} (hp : s.osc.part ≠ .failsafe) (cause : Cause) (d : DrivePort) :
    latchOf d (requestFailsafe cause s) = false := by
  rw [requestFailsafe_eq hp]
  cases d <;> rfl

theorem tickTimers_latch (d : DrivePort) (s : State) : latchOf d (tickTimers s) = latchOf d s := by cases d <;> rfl

theorem resetBlocks_latch (image : List Byte) (p : Port) (m : RetainedMap) (s : State) (d : DrivePort) :
    latchOf d (resetBlocks image p m s) = false := by cases d <;> rfl

/-- A latch that is clear stays clear but for an ADOPT (R96, R100). -/
theorem latchClear_promise (d : DrivePort) : UnitPromise fun s => latchOf d s = false where
  steady h hs := by rwa [latchOf, h.adoption]
  claimed e h c hs := by rw [claimed_latch, hs, Bool.false_and]
  recompute hs := recompute_latch_clear hs
  overflowed _ hs := overflowed_of_recompute (P := fun s => latchOf d s = false) hs (recompute_latch_clear hs)
  vote _ _ hs := hs
  entered _ hs := runEntered_latch hs
  deadline k t hs := by rwa [deadline_latch]
  dwell {s} _ hs := changeEnvelope_latch_clear (s := setDwell none s) hs _
  failsafe {s} cause hs := by
    by_cases hp : s.osc.part = .failsafe
    · rwa [requestFailsafe_of_failsafe hp]
    · exact requestFailsafe_latch hp cause d
  tick hs := by rwa [tickTimers_latch]

/-! ### The outputs -/

/-- The outputs of Table 6.1, and the latches of R100. -/
def PermitsHold (s : State) : Prop := OutputsAgree s ∧ LatchesHold s

theorem PermitsHold.of_eq {s t : State} (h : PermitsHold s) (outputs : t.permit.outputs = s.permit.outputs)
    (part : t.osc.part = s.osc.part) (envelope : t.unit.envelope = s.unit.envelope)
    (latch : ∀ d, latchOf d t = latchOf d s) (health : t.map.health = s.map.health) : PermitsHold t := by
  obtain ⟨hout, hlatch⟩ := h
  refine ⟨?_, fun d hd => ?_⟩
  · have hfront : t.unit.adoption.front.latch = s.unit.adoption.front.latch := latch .front
    have hrear : t.unit.adoption.rear.latch = s.unit.adoption.rear.latch := latch .rear
    rw [OutputsAgree, outputs, part, envelope, hfront, hrear]
    exact hout
  · rw [portRequired, part, portInService, health, envelope]
    exact hlatch d ((latch d).symm.trans hd)

/-- Outside RUN every latch is clear (R100). -/
theorem PermitsHold.latch_of_not_run {s : State} (h : PermitsHold s) (hp : s.osc.part ≠ .run) (d : DrivePort) :
    latchOf d s = false := by
  cases hl : latchOf d s with
  | false => rfl
  | true =>
    have hr := (h.2 d hl).1
    simp [portRequired, hp] at hr

/-- With every latch clear nothing but the outputs is to be seen to. -/
theorem permitsHold_of_clear {s : State} (hout : OutputsAgree s) (h : ∀ d, latchOf d s = false) : PermitsHold s :=
  ⟨hout, fun d hd => absurd (hd.symm.trans (h d)) (by decide)⟩

theorem PermitsHold.changeEnvelope {s : State} (h : PermitsHold s) (v : Envelope) : PermitsHold (changeEnvelope v s) := by
  by_cases hv : v = s.unit.envelope
  · rwa [changeEnvelope_self hv]
  · refine ⟨?_, fun d hd => ?_⟩
    · rw [OutputsAgree, changeEnvelope_outputs, if_neg hv, changeEnvelope_osc, changeEnvelope_unit_envelope]
    · have hl : (latchOf d s && axleAllowed v d) = true := by
        rw [← hd]
        exact ((changeEnvelope_latch v d s).trans (if_neg hv)).symm
      obtain ⟨hlatch, hallowed⟩ := Bool.and_eq_true_iff.mp hl
      obtain ⟨hrequired, -⟩ := h.2 d hlatch
      refine ⟨?_, by rwa [changeEnvelope_unit_envelope]⟩
      rw [← hrequired]
      simp [portRequired, portInService]

theorem PermitsHold.setDwell {s : State} (h : PermitsHold s) (t : Timer) : PermitsHold (setDwell t s) :=
  h.of_eq rfl rfl rfl (fun _ => rfl) rfl

theorem PermitsHold.computeTarget {s : State} (h : PermitsHold s) : PermitsHold (computeTarget s) :=
  h.of_eq rfl rfl rfl (fun _ => rfl) rfl

theorem PermitsHold.overflow {s : State} (h : PermitsHold s) : PermitsHold { s with table.overflow := true } :=
  h.of_eq rfl rfl rfl (fun _ => rfl) rfl

theorem PermitsHold.recompute {s : State} (h : PermitsHold s) : PermitsHold (recompute s) := by
  rw [recompute_eq]
  exact (h.computeTarget.setDwell _).changeEnvelope _

/-- A claim that takes a drive port out has dropped its latch and updated the outputs before its recompute (R98, R103). -/
theorem PermitsHold.claimed {s : State} (hs : PermitsHold s) (e : Element) (h : Health) (c : Option FaultClass) :
    PermitsHold (claimed e h c s) := by
  obtain ⟨hout, hlatch⟩ := hs
  have hlatches := fun d => claimed_latch e h c d s
  refine ⟨?_, fun d hd => ?_⟩
  · have houtputs := announce_outputs e (s.map.health.get e) h (setHealth e h s)
    by_cases hdrops : (!isOut (s.map.health.get e) && isOut h) = true ∧ (e = .frontCtl ∨ e = .rearCtl)
    · rw [if_pos hdrops] at houtputs
      refine Eq.trans houtputs ?_
      rw [claimed_osc, claimed_envelope]
      rfl
    · rw [if_neg hdrops] at houtputs
      have same : ∀ d, latchOf d (Machine.claimed e h c s) = latchOf d s := by
        intro d
        have hstays : (decide (controllerOf (portOfDrive d) = e) &&
            (!isOut (s.map.health.get e) && isOut h)) = false := by
          refine Bool.and_eq_false_imp.mpr fun he => ?_
          have hdrive : e = .frontCtl ∨ e = .rearCtl := by
            rw [← of_decide_eq_true he]
            cases d
            · exact .inl rfl
            · exact .inr rfl
          exact Bool.eq_false_iff.mpr fun hgoes => hdrops ⟨hgoes, hdrive⟩
        rw [hlatches, hstays, Bool.not_false, Bool.and_true]
      have hfront : (Machine.claimed e h c s).unit.adoption.front.latch = s.unit.adoption.front.latch := same .front
      have hrear : (Machine.claimed e h c s).unit.adoption.rear.latch = s.unit.adoption.rear.latch := same .rear
      rw [OutputsAgree, claimed_osc, claimed_envelope, hfront, hrear]
      exact Eq.trans houtputs hout
  · have hl := (hlatches d).symm.trans hd
    obtain ⟨hset, hstays⟩ := Bool.and_eq_true_iff.mp hl
    obtain ⟨hrequired, hallowed⟩ := hlatch d hset
    refine ⟨?_, by rwa [claimed_envelope]⟩
    simp only [portRequired, portInService, inService, claimed_osc, claimed_map, PerElement.get_set] at hrequired ⊢
    split
    case isTrue he =>
      rw [he] at hrequired
      revert hrequired hstays
      cases isOut (s.map.health.get e) <;> cases isOut h <;> simp [he]
    case isFalse => exact hrequired

theorem permitsHold_promise : UnitPromise PermitsHold where
  steady h hs := hs.of_eq h.outputs h.part h.envelope (fun d => by rw [latchOf, h.adoption, latchOf]) h.health
  claimed e h c hs := hs.claimed e h c
  recompute hs := hs.recompute
  overflowed _ hs := overflowed_of_recompute hs hs.overflow.recompute
  vote {s} p hp hs := by
    have clear := hs.latch_of_not_run (by rw [hp]; decide)
    refine permitsHold_of_clear (s := enterStarting p s) ?_ clear
    have hout := hs.1
    rw [OutputsAgree, hp] at hout
    exact hout
  entered {s} hp hs := by
    have clear := hs.latch_of_not_run (by rw [hp]; decide)
    refine permitsHold_of_clear ?_ fun d => runEntered_latch (clear d)
    have hfront := adoptionRound_latch .front (firstEnvelope (enterRun s))
    have hrear := adoptionRound_latch .rear (firstEnvelope (enterRun s))
    simp only [latchOf, PerDrive.get] at hfront hrear
    rw [OutputsAgree, adoptionRound_permit, firstEnvelope_outputs, adoptionRound_osc, adoptionRound_unit_envelope, hfront,
      hrear, firstEnvelope_osc]
  deadline d t hs := hs.of_eq rfl rfl rfl (fun k => deadline_latch d k t _) rfl
  dwell _ hs := (hs.setDwell none).changeEnvelope _
  failsafe {s} cause hs := by
    by_cases hp : s.osc.part = .failsafe
    · rwa [requestFailsafe_of_failsafe hp]
    · refine permitsHold_of_clear ?_ (requestFailsafe_latch hp cause)
      rw [requestFailsafe_eq hp]
      rfl
  tick {s} hs := hs.of_eq rfl rfl rfl (fun d => tickTimers_latch d s) rfl

theorem adoptionTaken_latch (d k : DrivePort) (s : State) :
    latchOf k (adoptionTaken d s) = if k = d then axleAllowed s.unit.envelope d else latchOf k s :=
  setAdoption_latch d k _ s

/-- An ADOPT in RUN from a drive port in service sets the latch that the axle's allowance gives (R96). -/
theorem PermitsHold.adoptionTaken {s : State} (hs : PermitsHold s) {d : DrivePort} (hp : s.osc.part = .run)
    (serves : portInService s (portOfDrive d) = true) : PermitsHold (adoptionTaken d s) := by
  refine ⟨updateOutputs_agree _, fun k hk => ?_⟩
  have hl := (adoptionTaken_latch d k s).symm.trans hk
  have frame : portRequired (Machine.adoptionTaken d s) k = portRequired s k := rfl
  rw [frame]
  split_ifs at hl with hkd
  · subst hkd
    exact ⟨by simp [portRequired, hp, serves], hl⟩
  · exact hs.2 k hl

theorem PermitsHold.oneTurn {i : Instr} {s t : State} (hs : PermitsHold s) (h : OneTurn i s t) : PermitsHold t :=
  permitsHold_promise.oneTurn h hs (fun _ _ _ ha _ hp serves => ha.adoptionTaken hp serves)
    fun _ image p m a => permitsHold_of_clear rfl (resetBlocks_latch image p m a)

/-- Settles O47: a step is one turn, and every turn keeps the outputs and the latches. -/
theorem stepKeepsTheOutputs : Obligations.StepKeepsTheOutputs := by
  unfold Obligations.StepKeepsTheOutputs
  intro s t hs hstep
  rcases step_turn hstep with rfl | ⟨i, hturn⟩
  · exact hs
  · exact PermitsHold.oneTurn hs hturn

/-! ### Rising permits -/

/-- The level of a drive permit by Table 6.1. -/
theorem drivenLevel_of_agree {s : State} (h : OutputsAgree s) (d : DrivePort) :
    drivenLevel s.permit.outputs d = (s.osc.part == .run && axleAllowed s.unit.envelope d && latchOf d s) := by
  rw [h]
  cases d <;> rfl

/-- A latch that one turn sets was set by the ADOPT of its own port (R96, R100). -/
theorem adopted_of_latch {i : Instr} {s t : State} {d : DrivePort} (h : OneTurn i s t) (hs : latchOf d s = false)
    (ht : latchOf d t = true) :
    i = .adopt (portOfDrive d) s.unit.generation ∧ s.osc.part = .run ∧ axleAllowed s.unit.envelope d = true := by
  by_contra hno
  have hclear : latchOf d t = false := by
    refine (latchClear_promise d).oneTurn h hs (fun k a hsettled ha asked hp serves => ?_)
      fun _ image p m a => resetBlocks_latch image p m a d
    rw [adoptionTaken_latch]
    split_ifs with hk
    · subst hk
      refine Bool.eq_false_iff.mpr fun hallowed => hno ⟨?_, ?_, ?_⟩
      · rw [asked, hsettled.generation]
      · rw [← hsettled.part, hp]
      · rw [← hsettled.envelope, hallowed]
    · exact ha
  rw [hclear] at ht
  cases ht

/-- Settles O59: a permit that rises had its latch clear, and the latch was set by the ADOPT. -/
theorem onlyAdoptRaisesADrivePermit : Obligations.OnlyAdoptRaisesADrivePermit := by
  unfold Obligations.OnlyAdoptRaisesADrivePermit
  intro i s t d hout hlatch hexec hlow hhigh
  have hturn := exec_turn hexec
  obtain ⟨hout', -⟩ := PermitsHold.oneTurn ⟨hout, hlatch⟩ hturn
  rw [drivenLevel_of_agree hout'] at hhigh
  obtain ⟨-, hset⟩ := Bool.and_eq_true_iff.mp hhigh
  refine adopted_of_latch hturn ?_ hset
  cases hl : latchOf d s with
  | false => rfl
  | true =>
    obtain ⟨hrequired, hallowed⟩ := hlatch d hl
    obtain ⟨hrun, -⟩ := Bool.and_eq_true_iff.mp hrequired
    rw [drivenLevel_of_agree hout, hl, hallowed, hrun] at hlow
    cases hlow

end Sys2Proof.Machine
end

section
/-! In RUN a pending drive port is required and has its deadline running; before RUN nothing is pending, and there is
neither ballot nor trial (O54). -/

namespace Sys2Proof.Machine

/-! ### Drive ports that owe an adoption -/

/-- In RUN each pending drive port is required and, where it is among those asked, has its deadline running; before RUN
none is pending and none has a deadline, and there is neither ballot nor trial (R85, R92). The lapse of a deadline stops
it before the report is made (R97), and its own port is not asked in between. -/
structure DeadlinesHold (asked : DrivePort → Prop) (s : State) : Prop where
  noRecovery : NoRecoveryBeforeRun s
  nothingPending : NothingPendingBeforeRun s
  owed : s.osc.part = .run → ∀ d, (s.unit.adoption.get d).pending = true →
    portRequired s d = true ∧ (asked d → (s.unit.adoption.get d).deadline.isSome = true)

section
variable {asked : DrivePort → Prop} {s t : State}

theorem deadlinesHold_of_failsafe (hp : s.osc.part = .failsafe) : DeadlinesHold asked s := by
  refine ⟨fun h => ?_, fun h => ?_, fun h => ?_⟩ <;> simp [hp] at h

/-- In RUN only the owed adoptions are to be seen to. -/
theorem deadlinesHold_of_run (hp : s.osc.part = .run)
    (owed : ∀ d, (s.unit.adoption.get d).pending = true →
      portRequired s d = true ∧ (asked d → (s.unit.adoption.get d).deadline.isSome = true)) : DeadlinesHold asked s := by
  refine ⟨fun h => ?_, fun h => ?_, fun _ => owed⟩ <;> simp [hp] at h

theorem portRequired_of_eq (part : t.osc.part = s.osc.part) (health : t.map.health = s.map.health) (d : DrivePort) :
    portRequired t d = portRequired s d := by
  rw [portRequired, portInService, part, health]
  rfl

theorem DeadlinesHold.of_eq (h : DeadlinesHold asked s) (part : t.osc.part = s.osc.part)
    (adoption : t.unit.adoption = s.unit.adoption) (health : t.map.health = s.map.health)
    (vacant : s.osc.part = .config ∨ s.osc.part = .starting → Vacant s.recovery → Vacant t.recovery) :
    DeadlinesHold asked t := by
  refine ⟨fun hp => ?_, fun hp => ?_, fun hp d hd => ?_⟩
  · rw [part] at hp
    obtain ⟨hballot, hprimary, hnested, hhealth⟩ := h.noRecovery hp
    obtain ⟨hballot', hprimary', hnested'⟩ := vacant hp ⟨hballot, hprimary, hnested⟩
    exact ⟨hballot', hprimary', hnested', by rwa [health]⟩
  · rw [part] at hp
    rw [adoption]
    exact h.nothingPending hp
  · rw [part] at hp
    rw [adoption] at hd ⊢
    rw [portRequired_of_eq part health]
    exact h.owed hp d hd

theorem DeadlinesHold.settled (h : Settled s t) (hs : DeadlinesHold asked s) : DeadlinesHold asked t :=
  hs.of_eq h.part h.adoption h.health fun _ => h.vacant

/-- An adoption round of the drive port, as far as it is owed: one that is required becomes pending, with its deadline
running (R94). -/
def RoundTaken (d : DrivePort) (s t : State) : Prop :=
  (t.unit.adoption.get d).pending = ((s.unit.adoption.get d).pending || portRequired s d) ∧
  (t.unit.adoption.get d).deadline =
    if portRequired s d then some ((s.unit.adoption.get d).deadline.getD (globalConfig s.osc.image).adoption)
    else (s.unit.adoption.get d).deadline

theorem DeadlinesHold.rounded (h : DeadlinesHold asked s) (part : t.osc.part = s.osc.part)
    (health : t.map.health = s.map.health) (vacant : Vacant s.recovery → Vacant t.recovery)
    (round : ∀ d, t.unit.adoption.get d = s.unit.adoption.get d ∨ RoundTaken d s t) : DeadlinesHold asked t := by
  refine ⟨fun hp => ?_, fun hp d => ?_, fun hp d hd => ?_⟩
  · rw [part] at hp
    obtain ⟨hballot, hprimary, hnested, hhealth⟩ := h.noRecovery hp
    obtain ⟨hballot', hprimary', hnested'⟩ := vacant ⟨hballot, hprimary, hnested⟩
    exact ⟨hballot', hprimary', hnested', by rwa [health]⟩
  · rw [part] at hp
    obtain ⟨hpending, hdeadline⟩ := h.nothingPending hp d
    have hr : portRequired s d = false := by
      rcases hp with hp | hp <;> rw [portRequired, hp] <;> rfl
    rcases round d with hsame | ⟨hp', hd'⟩
    · rw [hsame]
      exact ⟨hpending, hdeadline⟩
    · rw [hp', hd', hr, hpending, hdeadline]
      exact ⟨rfl, rfl⟩
  · rw [part] at hp
    rw [portRequired_of_eq part health]
    rcases round d with hsame | ⟨hp', hd'⟩
    · rw [hsame] at hd ⊢
      exact h.owed hp d hd
    · rw [hp'] at hd
      have hr : portRequired s d = true := (Bool.or_eq_true_iff.mp hd).elim (fun hd => (h.owed hp d hd).1) id
      rw [hd', if_pos hr]
      exact ⟨hr, fun _ => rfl⟩

theorem changeEnvelope_vacant (v : Envelope) (s : State) (h : Vacant s.recovery) :
    Vacant (changeEnvelope v s).recovery := by
  obtain ⟨hballot, hprimary, hnested⟩ := h
  refine ⟨by simpa using hballot, ?_, by simpa using hnested⟩
  rw [changeEnvelope_primary, hprimary]
  exact ite_self _

theorem DeadlinesHold.changeEnvelope (h : DeadlinesHold asked s) (v : Envelope) :
    DeadlinesHold asked (changeEnvelope v s) := by
  refine h.rounded (by simp) (by simp) (changeEnvelope_vacant v s) fun d => ?_
  rw [RoundTaken, changeEnvelope_adoption]
  split
  · exact .inl rfl
  · exact .inr ⟨rfl, rfl⟩

theorem DeadlinesHold.adoptionRound (h : DeadlinesHold asked s) : DeadlinesHold asked (adoptionRound s) := by
  refine h.rounded (by simp) (by simp) (fun hv => by simpa using hv) fun d => .inr ?_
  rw [RoundTaken, adoptionRound_adoption]
  exact ⟨rfl, rfl⟩

theorem DeadlinesHold.setDwell (h : DeadlinesHold asked s) (t : Timer) : DeadlinesHold asked (setDwell t s) :=
  h.of_eq rfl rfl rfl fun _ => id

theorem DeadlinesHold.computeTarget (h : DeadlinesHold asked s) : DeadlinesHold asked (computeTarget s) :=
  h.of_eq rfl rfl rfl fun _ => id

theorem DeadlinesHold.recompute (h : DeadlinesHold asked s) : DeadlinesHold asked (recompute s) := by
  rw [recompute_eq]
  exact (h.computeTarget.setDwell _).changeEnvelope _

theorem DeadlinesHold.firstEnvelope (h : DeadlinesHold asked s) : DeadlinesHold asked (firstEnvelope s) :=
  ((h.computeTarget.setDwell none).changeEnvelope (Machine.computeTarget s).unit.target.env).of_eq rfl
    (by simp [Machine.firstEnvelope]) (by simp [Machine.firstEnvelope]) fun _ hv => by simpa [Machine.firstEnvelope] using hv

theorem DeadlinesHold.overflow (h : DeadlinesHold asked s) : DeadlinesHold asked { s with table.overflow := true } :=
  h.of_eq rfl rfl rfl fun _ => id

/-! ### Claims -/

theorem portRequired_of_run (hp : s.osc.part = .run) (d : DrivePort) :
    portRequired s d = !isOut (s.map.health.get (controllerOf (portOfDrive d))) := by
  rw [portRequired, hp]
  rfl

theorem claimed_adoption (e : Element) (h : Health) (c : Option FaultClass) (d : DrivePort) (s : State) :
    (claimed e h c s).unit.adoption.get d = (announce e (s.map.health.get e) h s).unit.adoption.get d := by
  show (announce e (s.map.health.get e) h (setHealth e h s)).unit.adoption.get d = _
  rw [announce_adoption, announce_adoption]
  rfl

/-- In RUN a controller that goes out leaves its port owing nothing, and one that returns leaves it pending with its
deadline started (R98, R99). -/
theorem DeadlinesHold.claimed_of_run (h : DeadlinesHold asked s) (hp : s.osc.part = .run) (e : Element) (after : Health)
    (c : Option FaultClass) : DeadlinesHold asked (claimed e after c s) := by
  have hp' : (claimed e after c s).osc.part = .run := by simpa using hp
  refine deadlinesHold_of_run hp' fun d hd => ?_
  rw [claimed_adoption, announce_adoption] at hd ⊢
  rw [portRequired_of_run hp', claimed_map, PerElement.get_set]
  have owed := h.owed hp d
  rw [portRequired_of_run hp] at owed
  by_cases hc : controllerOf (portOfDrive d) = e
  · rw [hc] at owed ⊢
    cases hb : isOut (s.map.health.get e) <;> cases ha : isOut after <;> simp_all
  · simp only [ne_eq, hc, not_false_eq_true, if_true, if_false] at hd ⊢
    exact owed hd

/-- Before RUN a claim starts no trial and returns no element. -/
theorem DeadlinesHold.claimed_before_run (h : DeadlinesHold asked s)
    (hp : s.osc.part = .config ∨ s.osc.part = .starting) {e : Element} {after : Health} (c : Option FaultClass)
    (ht : after ≠ .trial) (hout : isOut (s.map.health.get e) = true → isOut after = true) :
    DeadlinesHold asked (claimed e after c s) := by
  refine ⟨fun _ => ?_, fun _ d => ?_, fun hr => ?_⟩
  · obtain ⟨hballot, hprimary, hnested, hhealth⟩ := h.noRecovery hp
    refine ⟨?_, by simpa using hprimary, by simpa using hnested, fun k => ?_⟩
    · refine (announce_ballot e _ after (setHealth e after s)).trans ?_
      rw [setHealth_recovery, hballot]
      split <;> rfl
    rw [claimed_map, PerElement.get_set]
    split
    · exact ht
    · exact hhealth k
  · obtain ⟨hpending, hdeadline⟩ := h.nothingPending hp d
    have hback : (isOut (s.map.health.get e) && !isOut after) = false :=
      Bool.and_eq_false_imp.mpr fun hb => by rw [hout hb]; rfl
    rw [claimed_adoption, announce_adoption, hback, if_neg Bool.false_ne_true]
    split_ifs
    · exact ⟨hpending, hdeadline⟩
    · exact ⟨rfl, rfl⟩
    · exact ⟨hpending, hdeadline⟩
  · rw [claimed_osc] at hr
    simp [hr] at hp

theorem DeadlinesHold.claimed (h : DeadlinesHold asked s) {e : Element} {after : Health} (c : Option FaultClass)
    (hf : Fits e after s) : DeadlinesHold asked (claimed e after c s) := by
  rcases hf with hrun | ⟨ht, hout⟩
  · exact h.claimed_of_run hrun e after c
  · by_cases hrun : s.osc.part = .run
    · exact h.claimed_of_run hrun e after c
    by_cases hstop : s.osc.part = .failsafe
    · exact deadlinesHold_of_failsafe (by simpa using hstop)
    · refine h.claimed_before_run ?_ c ht hout
      revert hrun hstop
      cases s.osc.part <;> simp

end

theorem deadlinesHold_law (asked : DrivePort → Prop) : UnitLaw (DeadlinesHold asked) where
  settled h hs := hs.settled h
  claimed c hf hs := hs.claimed c hf
  recompute hs := hs.recompute
  overflowed _ hs := overflowed_of_recompute hs hs.overflow.recompute

/-! ### The turns -/

section
variable {asked : DrivePort → Prop} {s : State}

/-- A ballot opens or stands in RUN or FAILSAFE alone. -/
theorem DeadlinesHold.late_of_polled (h : DeadlinesHold asked s) (polled : Polled s) :
    ¬ (s.osc.part = .config ∨ s.osc.part = .starting) := by
  intro hp
  rcases polled with hrun | hballot
  · simp [hrun] at hp
  · exact hballot (h.noRecovery hp).1

theorem DeadlinesHold.startTrial (h : DeadlinesHold asked s) (late : ¬ (s.osc.part = .config ∨ s.osc.part = .starting))
    (slot : TrialSlot) (e : Element) : DeadlinesHold asked (startTrial slot e s) := by
  have steady := steady_trialPlaced slot e s
  have placed : DeadlinesHold asked (trialPlaced slot e s) :=
    h.of_eq steady.part steady.adoption steady.health fun hp => absurd hp late
  by_cases hrun : s.osc.part = .run
  · rcases startTrial_cases slot e s with ht | ht <;> rw [ht]
    · exact placed
    · exact (deadlinesHold_law asked).changeHealth placed none (.inl (steady.part.trans hrun))
  · refine deadlinesHold_of_failsafe ?_
    have hpart : (Machine.startTrial slot e s).osc.part = s.osc.part := by simp
    rw [hpart]
    revert hrun late
    cases s.osc.part <;> simp

theorem deadlinesHold_enterRun (h : DeadlinesHold asked s) (hp : s.osc.part = .starting) :
    DeadlinesHold asked (enterRun s) := by
  refine deadlinesHold_of_run rfl fun d hd => ?_
  have hpending : (s.unit.adoption.get d).pending = false := (h.nothingPending (.inr hp) d).1
  exact absurd (hd.symm.trans hpending) (by decide)

theorem DeadlinesHold.entered (h : DeadlinesHold asked s) (hp : s.osc.part = .starting) :
    DeadlinesHold asked (Machine.adoptionRound (Machine.firstEnvelope (enterRun s))) :=
  (deadlinesHold_enterRun h hp).firstEnvelope.adoptionRound

theorem DeadlinesHold.enterStarting (h : DeadlinesHold asked s) (hp : s.osc.part = .config) (p : Port) :
    DeadlinesHold asked (enterStarting p s) :=
  ⟨fun _ => h.noRecovery (.inl hp), fun _ => h.nothingPending (.inl hp), nofun⟩

/-- An adoption record of a required port that owes nothing, or has its deadline running. -/
theorem DeadlinesHold.setAdoption (h : DeadlinesHold asked s) (hp : s.osc.part = .run) {d : DrivePort}
    {v : AdoptionRecord} {also : DrivePort → Prop} (hrest : ∀ k, also k → k ≠ d → asked k)
    (hv : v.pending = true → portRequired s d = true ∧ (also d → v.deadline.isSome = true)) :
    DeadlinesHold also (setAdoption d v s) := by
  refine deadlinesHold_of_run hp fun k hk => ?_
  have hr : portRequired (Machine.setAdoption d v s) k = portRequired s k := rfl
  rw [setAdoption_unit_adoption, PerDrive.get_set] at hk ⊢
  rw [hr]
  split_ifs at hk ⊢ with hkd
  · rw [hkd]
    exact hv hk
  · obtain ⟨hrequired, hdeadline⟩ := h.owed hp k hk
    exact ⟨hrequired, fun hk' => hdeadline (hrest k hk' hkd)⟩

/-- The restart at the end of a lapse gives its port a deadline again, where it is still pending (R97). -/
theorem DeadlinesHold.restartAdoption {d : DrivePort} (h : DeadlinesHold (· ≠ d) s) (hp : s.osc.part = .run) :
    DeadlinesHold (fun _ => True) (restartAdoption d s) := by
  unfold Machine.restartAdoption
  dsimp only
  split
  case isTrue hg =>
    obtain ⟨hserves, -⟩ := Bool.and_eq_true_iff.mp hg
    exact h.setAdoption hp (fun _ _ hk => hk) fun _ => ⟨by simp [portRequired, hp, hserves], fun _ => rfl⟩
  case isFalse hg =>
    refine deadlinesHold_of_run hp fun k hk => ?_
    obtain ⟨hrequired, hdeadline⟩ := h.owed hp k hk
    refine ⟨hrequired, fun _ => hdeadline fun hkd => hg ?_⟩
    subst hkd
    obtain ⟨-, hserves⟩ := Bool.and_eq_true_iff.mp hrequired
    rw [hserves, hk]
    rfl

/-- The lapse stops the deadline, makes its report, and restarts it (R97). -/
theorem DeadlinesHold.lapse (h : DeadlinesHold (fun _ => True) s) (hp : s.osc.part = .run) (d : DrivePort)
    (r : FaultReport) :
    DeadlinesHold (fun _ => True) (Machine.restartAdoption d (Machine.handReport r
      (Machine.setAdoption d { s.unit.adoption.get d with deadline := none } s))) := by
  have stopped : DeadlinesHold (· ≠ d) (Machine.setAdoption d { s.unit.adoption.get d with deadline := none } s) :=
    h.setAdoption hp (fun _ _ _ => trivial) fun hv => ⟨(h.owed hp d hv).1, fun hd => absurd rfl hd⟩
  exact ((deadlinesHold_law _).handReport stopped r).restartAdoption (by simpa using hp)

theorem DeadlinesHold.tickTimers (h : DeadlinesHold asked s) : DeadlinesHold asked (tickTimers s) := by
  have hticked : ∀ d, (Machine.tickTimers s).unit.adoption.get d = tickAdoption (s.unit.adoption.get d) := fun d => by
    cases d <;> rfl
  refine ⟨fun hp => ?_, fun hp d => ?_, fun hp d hd => ?_⟩
  · obtain ⟨hballot, hprimary, hnested, hhealth⟩ := h.noRecovery hp
    refine ⟨?_, ?_, ?_, hhealth⟩ <;> simp [Machine.tickTimers, hballot, hprimary, hnested]
  · obtain ⟨hpending, hdeadline⟩ := h.nothingPending hp d
    rw [hticked, tickAdoption, hdeadline]
    exact ⟨hpending, rfl⟩
  · rw [hticked] at hd ⊢
    obtain ⟨hrequired, hdeadline⟩ := h.owed hp d hd
    exact ⟨hrequired, fun hk => Option.isSome_map.trans (hdeadline hk)⟩

end

theorem resetBlocks_deadlinesHold (asked : DrivePort → Prop) (image : List Byte) (p : Port) (m : RetainedMap) (s : State) :
    DeadlinesHold asked (resetBlocks image p m s) := by
  refine ⟨fun _ => ⟨rfl, rfl, rfl, fun e => ?_⟩, fun _ d => ?_, nofun⟩
  · show (PerElement.of fun _ => Health.inService).get e ≠ _
    simp
  · cases d <;> exact ⟨rfl, rfl⟩

theorem DeadlinesHold.turn {i : Instr} {s t : State} (hs : DeadlinesHold (fun _ => True) s) (h : Turn i s t) :
    DeadlinesHold (fun _ => True) t := by
  have law := deadlinesHold_law fun _ => True
  cases h with
  | idle => exact hs
  | report r => exact law.handReport hs r
  | recompute => exact law.recompute hs
  | ballot b polled => exact hs.of_eq rfl rfl rfl fun hp => absurd hp (hs.late_of_polled polled)
  | trial slot e u closed polled =>
    have late : ¬ (u.osc.part = .config ∨ u.osc.part = .starting) := by
      rw [closed.part]
      exact hs.late_of_polled polled
    exact (law.settled closed hs).startTrial late slot e
  | pass slot x isRun => exact law.passTrial hs slot x
  | vote p isConfig => exact hs.enterStarting isConfig p
  | entry isStarting => exact law.runEntry hs isStarting fun _ hp hu => hu.entered hp
  | window isStarting =>
    exact law.runEntry (law.startVoteReports hs) (by simpa using isStarting) fun _ hp hu => hu.entered hp
  | adopt d asked isRun serves =>
    refine DeadlinesHold.of_eq (s := Machine.setAdoption d _ s) ?_ rfl rfl rfl fun _ => id
    exact hs.setAdoption isRun (fun _ _ _ => trivial) nofun
  | lapse d isRun => exact hs.lapse isRun d _
  | dwell isRun => exact (hs.setDwell none).changeEnvelope _
  | failsafe cause => exact deadlinesHold_of_failsafe (requestFailsafe_part cause s)
  | tick => exact hs.tickTimers
  | reset image p m asked => exact resetBlocks_deadlinesHold _ image p m s

theorem DeadlinesHold.oneTurn {i : Instr} {s t : State} (hs : DeadlinesHold (fun _ => True) s) (h : OneTurn i s t) :
    DeadlinesHold (fun _ => True) t := by
  obtain ⟨a, b, ha, hab, hb⟩ := h
  exact ((hs.settled ha).turn hab).settled hb.toSettled

/-- With every port asked, what is owed in RUN is the promise of R92. -/
theorem deadlinesHold_iff (s : State) : DeadlinesHold (fun _ => True) s ↔
    NoRecoveryBeforeRun s ∧ PendingHasDeadline s ∧ NothingPendingBeforeRun s := by
  refine ⟨fun ⟨hrecovery, hnothing, howed⟩ => ⟨hrecovery, fun hp d hd => ?_, hnothing⟩,
    fun ⟨hrecovery, howed, hnothing⟩ => ⟨hrecovery, hnothing, fun hp d hd => ?_⟩⟩
  · obtain ⟨hrequired, hdeadline⟩ := howed hp d hd
    exact ⟨hrequired, hdeadline trivial⟩
  · obtain ⟨hrequired, hdeadline⟩ := howed hp d hd
    exact ⟨hrequired, fun _ => hdeadline⟩

/-- Settles O54: a step is one turn, and every turn keeps what is owed and the dwell. -/
theorem stepKeepsTheDeadlines : Obligations.StepKeepsTheDeadlines := by
  unfold Obligations.StepKeepsTheDeadlines
  intro s t ⟨hrecovery, howed, hnothing, hdwell⟩ hstep
  rcases step_turn hstep with rfl | ⟨i, hturn⟩
  · exact ⟨hrecovery, howed, hnothing, hdwell⟩
  · have hs : DeadlinesHold (fun _ => True) s := (deadlinesHold_iff s).mpr ⟨hrecovery, howed, hnothing⟩
    obtain ⟨hrecovery', howed', hnothing'⟩ := (deadlinesHold_iff t).mp (hs.oneTurn hturn)
    exact ⟨hrecovery', howed', hnothing', hdwell.oneTurn hturn⟩

end Sys2Proof.Machine
end

section
/-! The generation names the envelope: it advances with each change of it, and with nothing else (O56). -/

namespace Sys2Proof.Machine

/-! ### The date of the envelope -/

/-- The envelope, its generation and the ENVELOPE notices stand as they did. -/
structure SameDate (s t : State) : Prop where
  envelope : t.unit.envelope = s.unit.envelope
  generation : t.unit.generation = s.unit.generation
  notices : SameEnvelopeNotices s t

/-- Another envelope stands, with the next generation, which every port has notice of (R83, R84). -/
structure Changed (s t : State) : Prop where
  envelope : t.unit.envelope ≠ s.unit.envelope
  generation : t.unit.generation = s.unit.generation + 1
  notices : ∀ p, (t.ports.get p).notices.envelope = some t.unit.generation

/-- The envelope and the generation stand as they did, or another envelope stands with the next generation. -/
def Dated (s t : State) : Prop :=
  (t.unit.envelope = s.unit.envelope ∧ t.unit.generation = s.unit.generation) ∨ Changed s t

theorem Still.sameDate {s t : State} (h : Still s t) : SameDate s t := ⟨h.envelope, h.generation, h.notices⟩

theorem SameDate.trans {s t u : State} (h : SameDate s t) (k : SameDate t u) : SameDate s u :=
  ⟨k.envelope.trans h.envelope, k.generation.trans h.generation, fun p => (k.notices p).trans (h.notices p)⟩

theorem SameDate.dated {s t : State} (h : SameDate s t) : Dated s t := .inl ⟨h.envelope, h.generation⟩

theorem Dated.refl (s : State) : Dated s s := .inl ⟨rfl, rfl⟩

/-- What stands behind the change leaves it dated. -/
theorem Dated.before {s t u : State} (h : Dated s t) (k : SameDate t u) : Dated s u := by
  rcases h with ⟨henv, hgen⟩ | ⟨henv, hgen, hnotices⟩
  · exact .inl ⟨k.envelope.trans henv, k.generation.trans hgen⟩
  · refine .inr ⟨by rwa [k.envelope], k.generation.trans hgen, fun p => ?_⟩
    rw [k.notices, k.generation, hnotices]

/-- What stands before the change is dated from the envelope and the generation alone. -/
theorem Dated.after {s t u : State} (h : Dated t u) (henv : t.unit.envelope = s.unit.envelope)
    (hgen : t.unit.generation = s.unit.generation) : Dated s u := by
  rcases h with ⟨henv', hgen'⟩ | ⟨henv', hgen', hnotices⟩
  · exact .inl ⟨henv'.trans henv, hgen'.trans hgen⟩
  · exact .inr ⟨by rwa [← henv], by rw [hgen', hgen], hnotices⟩

theorem Dated.after_settled {s t u : State} (h : Dated t u) (k : Settled s t) : Dated s u :=
  h.after k.envelope k.generation

/-! ### Recomputes and claims -/

theorem dated_changeEnvelope (v : Envelope) (s : State) : Dated s (changeEnvelope v s) := by
  by_cases h : v = s.unit.envelope
  · rw [changeEnvelope_self h]
    exact .refl s
  · refine .inr ⟨by rwa [changeEnvelope_unit_envelope], ?_, fun p => ?_⟩
    · rw [changeEnvelope_unit_generation, if_neg h]
    · rw [changeEnvelope_port, if_neg h]

theorem dated_recompute (s : State) : Dated s (recompute s) := by
  rw [recompute_eq]
  exact (dated_changeEnvelope _ _).after rfl rfl

theorem recompute_sameDate {s : State} (h : (recompute s).unit.envelope = s.unit.envelope) : SameDate s (recompute s) := by
  refine ⟨h, ?_, fun p => ?_⟩
  · rw [recompute_unit_generation, if_pos h]
  · rw [recompute_port, if_pos h]

section
variable (e : Element) (h : Health) (c : Option FaultClass) (s : State)

theorem claimed_sameDate : SameDate s (claimed e h c s) :=
  ⟨claimed_envelope e h c s, claimed_generation e h c s, fun p => by rw [claimed_port]⟩

theorem dated_changeHealth : Dated s (changeHealth e h c s) := by
  by_cases hh : s.map.health.get e = h
  · rw [changeHealth_same hh]
    exact .refl s
  · rw [changeHealth_of_ne hh]
    exact (dated_recompute _).after (claimed_sameDate e h c s).envelope (claimed_sameDate e h c s).generation

variable {s} in
theorem changeHealth_sameDate (henv : (changeHealth e h c s).unit.envelope = s.unit.envelope) :
    SameDate s (changeHealth e h c s) := by
  by_cases hh : s.map.health.get e = h
  · rw [changeHealth_same hh]
    exact (Still.refl s).sameDate
  · rw [changeHealth_of_ne hh] at henv ⊢
    have claim := claimed_sameDate e h c s
    exact claim.trans (recompute_sameDate (henv.trans claim.envelope.symm))

end

/-! ### Reports -/

theorem dated_failTrial (e : Element) (c : FaultClass) (recorded : Bool) (s : State) :
    Dated s (failTrial e c recorded s) := by
  obtain ⟨u, h, -, hu, -, heq⟩ := failTrial_claim e c recorded s
  rw [heq]
  exact ((dated_changeHealth e h (some c) u).after_settled hu.toSettled).before (still_evaluatePrimary _).sameDate

/-- Behind the recompute that overflow has set off, the failure of a trial leaves the envelope as it is (R77, R91). -/
theorem failTrial_sameDate_of_stopped (e : Element) (c : FaultClass) (recorded : Bool) {s : State} {v : Envelope}
    (ho : s.table.overflow = true)
    (hv : s.osc.part = .run → s.unit.envelope = stoppedEnvelope s.osc.image v) : SameDate s (failTrial e c recorded s) := by
  obtain ⟨u, h, -, hu, hosc, heq⟩ := failTrial_claim e c recorded s
  rw [heq]
  refine (hu.sameDate.trans (changeHealth_sameDate e h (some c) ?_)).trans (still_evaluatePrimary _).sameDate
  by_cases hrun : u.osc.part = .run
  · refine changeHealth_envelope_of_stopped (v := v) hrun (hu.overflow.trans ho) ?_ (some c)
    rw [hu.envelope, hosc]
    exact hv (hu.part.symm.trans hrun)
  · exact changeHealth_envelope_of_not_run hrun (some c)

theorem dated_confirmRecord (e : Element) (c : FaultClass) (s : State) : Dated s (confirmRecord e c s) := by
  have confirmed := (still_recordConfirmed e c s).toSettled
  by_cases ht : s.map.health.get e = .trial
  · rw [confirmRecord_of_trial ht]
    exact (dated_failTrial e c true _).after_settled confirmed
  · rw [confirmRecord_eq_changeHealth ht]
    exact (dated_changeHealth e _ (some c) _).after_settled (confirmed.trans (still_voidIfNamed e _).toSettled)

/-- A report without room changes the envelope once: where it sets overflow, the failure that may follow finds the
envelope stopped (R29). -/
theorem dated_leaveUnrecorded (r : FaultReport) (s : State) : Dated s (leaveUnrecorded r s) := by
  rw [leaveUnrecorded_eq]
  by_cases ho : s.table.overflow = true
  · rw [overflowed, if_pos ho]
    split
    · exact dated_failTrial _ _ _ s
    · exact .refl s
  · rw [overflowed, if_neg ho]
    have set : Dated s (recompute { s with table.overflow := true }) := (dated_recompute _).after rfl rfl
    split
    · refine set.before (failTrial_sameDate_of_stopped (v := s.unit.envelope) _ _ _ (by simp) fun hrun => ?_)
      rw [recompute_osc] at hrun ⊢
      exact recompute_envelope_of_overflow hrun rfl
    · exact set

theorem dated_handReport (r : FaultReport) (s : State) : Dated s (handReport r s) := by
  have scored := still_scored r s
  rcases handReport_cases r s with h | ⟨-, -, h | ⟨-, h⟩⟩ | ⟨-, -, h⟩ <;> rw [h]
  · exact .refl s
  · exact scored.sameDate.dated
  · exact (dated_confirmRecord _ _ _).after_settled scored.toSettled
  · exact dated_leaveUnrecorded r s

/-! ### Trials and RUN entry -/

theorem dated_startTrial (slot : TrialSlot) (e : Element) (s : State) : Dated s (startTrial slot e s) := by
  have placed := steady_trialPlaced slot e s
  rcases startTrial_cases slot e s with h | h <;> rw [h]
  · exact (Dated.refl _).after placed.envelope placed.generation
  · exact (dated_changeHealth e .trial none _).after placed.envelope placed.generation

theorem dated_passTrial (slot : TrialSlot) (x : Trial) (s : State) : Dated s (passTrial slot x s) := by
  have ended := (still_trialEnded slot x.element .passed s).toSettled
  show Dated s (evaluatePrimary (trialPassedClaim x.element (trialEnded slot x.element .passed s)))
  refine Dated.before ?_ (still_evaluatePrimary _).sameDate
  unfold trialPassedClaim
  split
  · exact (dated_changeHealth _ _ none _).after_settled ended
  · exact (Dated.refl _).after_settled ended

/-- Outside RUN the unit has this envelope with this generation. -/
def StandsBeforeRun (v : Envelope) (g : Half) (s : State) : Prop :=
  s.osc.part ≠ .run ∧ s.unit.envelope = v ∧ s.unit.generation = g

theorem StandsBeforeRun.recompute {v : Envelope} {g : Half} {s : State} (h : StandsBeforeRun v g s) :
    StandsBeforeRun v g (recompute s) := by
  obtain ⟨hp, henv, hgen⟩ := h
  have same : (Machine.recompute s).unit.envelope = s.unit.envelope := by
    rw [recompute_unit_envelope, publishedEnvelope, if_pos (by simpa using hp), computeTarget_unit_envelope]
  refine ⟨by simpa using hp, same.trans henv, ?_⟩
  rw [recompute_unit_generation, if_pos same, hgen]

/-- Outside RUN no report and no claim changes the envelope (R79). -/
theorem standsBeforeRun_law (v : Envelope) (g : Half) : UnitLaw (StandsBeforeRun v g) where
  settled h hs := by
    rw [StandsBeforeRun, h.part, h.envelope, h.generation]
    exact hs
  claimed c _ hs := by
    rw [StandsBeforeRun, claimed_osc, claimed_envelope, claimed_generation]
    exact hs
  recompute hs := hs.recompute
  overflowed _ hs := overflowed_of_recompute hs (StandsBeforeRun.recompute hs)

theorem supervised_sameDate (s : State) : SameDate s (allPorts.foldl (fun s p => supervise p s) s) :=
  foldl_keeps (P := SameDate s) (f := fun s p => supervise p s)
    (fun p u hu => hu.trans (still_supervise p u).sameDate) allPorts (Still.refl s).sameDate

/-- RUN entry posts the generation to every port, whether the first envelope is another or not (R85, R171). -/
theorem dated_firstEnvelope (s : State) : Dated s (adoptionRound (firstEnvelope s)) := by
  have hgen := firstEnvelope_generation s
  refine Dated.before (t := firstEnvelope s) ?_ ⟨by simp, by simp, fun p => by simp⟩
  by_cases henv : (firstEnvelope s).unit.envelope = s.unit.envelope
  · exact .inl ⟨henv, hgen.trans (if_pos henv)⟩
  · exact .inr ⟨henv, hgen.trans (if_neg henv), firstEnvelope_notice s⟩

theorem dated_runEntry {s u : State} (hu : StandsBeforeRun s.unit.envelope s.unit.generation u) :
    Dated s (runEntry u) := by
  obtain ⟨-, henv, hgen⟩ := (standsBeforeRun_law _ _).applyLockouts hu
  exact Dated.before ((dated_firstEnvelope (enterRun (applyLockouts u))).after henv hgen) (supervised_sameDate _)

/-! ### The turns -/

theorem dated_requestFailsafe (cause : Cause) (s : State) : Dated s (requestFailsafe cause s) := by
  by_cases hp : s.osc.part = .failsafe
  · rw [requestFailsafe_of_failsafe hp]
    exact .refl s
  · rw [requestFailsafe_eq hp]
    by_cases henv : s.unit.envelope = safeStop
    · exact .inl ⟨henv.symm, if_pos henv⟩
    · refine .inr ⟨Ne.symm henv, if_neg henv, fun p => ?_⟩
      rw [PerPort.get_map]

theorem restartAdoption_sameDate (d : DrivePort) (s : State) : SameDate s (restartAdoption d s) := by
  unfold restartAdoption
  dsimp only
  split
  · exact ⟨rfl, rfl, fun _ => rfl⟩
  · exact (Still.refl s).sameDate

theorem dated_lapse (d : DrivePort) (v : AdoptionRecord) (r : FaultReport) (s : State) :
    Dated s (restartAdoption d (handReport r (setAdoption d v s))) := by
  have reported : Dated s (handReport r (setAdoption d v s)) := (dated_handReport r (setAdoption d v s)).after rfl rfl
  exact reported.before (restartAdoption_sameDate d _)

/-- Every turn but a reset dates the envelope. -/
theorem Turn.dated {i : Instr} {s t : State} (h : Turn i s t) (hi : isReset i = false) : Dated s t := by
  cases h with
  | idle => exact .refl s
  | report r => exact dated_handReport r s
  | recompute => exact dated_recompute s
  | ballot b polled => exact .inl ⟨rfl, rfl⟩
  | trial slot e u closed polled => exact (dated_startTrial slot e u).after_settled closed
  | pass slot x isRun => exact dated_passTrial slot x s
  | vote p isConfig => exact .inl ⟨rfl, rfl⟩
  | entry isStarting =>
    exact dated_runEntry ⟨by simp [isStarting], rfl, rfl⟩
  | window isStarting =>
    exact dated_runEntry ((standsBeforeRun_law _ _).startVoteReports ⟨by simp [isStarting], rfl, rfl⟩)
  | adopt d asked isRun serves => exact .inl ⟨rfl, rfl⟩
  | lapse d isRun => exact dated_lapse d _ _ s
  | dwell isRun => exact (dated_changeEnvelope s.unit.target.env (setDwell none s)).after rfl rfl
  | failsafe cause => exact dated_requestFailsafe cause s
  | tick => exact .inl ⟨rfl, rfl⟩
  | reset image p m asked => simp [hi] at asked

/-- Settles O56: a command is one turn, and every turn but a reset dates the envelope. -/
theorem generationNamesTheEnvelope : Obligations.GenerationNamesTheEnvelope := by
  unfold Obligations.GenerationNamesTheEnvelope
  intro i s t hexec hi
  obtain ⟨a, b, ha, hab, hb⟩ := exec_turn hexec
  rcases ((hab.dated hi).after_settled ha).before hb.sameDate with same | ⟨henv, hgen, hnotices⟩
  · exact .inl same
  · exact .inr ⟨henv, hgen, hnotices⟩

end Sys2Proof.Machine
end

section
/-! The lapse of an adoption deadline, and the controller that it isolates (O19). -/

namespace Sys2Proof.Machine

/-! ### The lapse -/

theorem adoptionDeadlineExpiry_of_due {d : DrivePort} {s : State} (hrun : s.osc.part = .run)
    (hdue : (s.unit.adoption.get d).deadline = some 0) :
    adoptionDeadlineExpiry d s =
      restartAdoption d (handReport (monitorReport (controllerOf (portOfDrive d)) .adoptionLapse)
        (setAdoption d { s.unit.adoption.get d with deadline := none } s)) := by
  have hguard : (inRun s && ranOut (s.unit.adoption.get d).deadline) = true := by
    rw [inRun, hrun, hdue]
    rfl
  rw [adoptionDeadlineExpiry, if_pos hguard]

theorem restartAdoption_eq (d : DrivePort) (s : State) :
    restartAdoption d s =
      if portInService s (portOfDrive d) = true ∧ (s.unit.adoption.get d).pending = true then
        setAdoption d { s.unit.adoption.get d with deadline := some (globalConfig s.osc.image).adoption } s
      else s := by
  unfold restartAdoption
  simp only [Bool.and_eq_true]

/-- A port out of service has no deadline to start again. -/
theorem restartAdoption_of_out {d : DrivePort} {s : State} (h : portInService s (portOfDrive d) = false) :
    restartAdoption d s = s := by
  rw [restartAdoption_eq, h]
  exact if_neg fun hn => absurd hn.1 (by decide)

/-! ### The report of a lapse -/

/-- A report of C7 confirms the record that it creates, for C7's weight is above its threshold (R23, R27, R31). -/
theorem handReport_of_lapse {e : Element} {s : State} (hrun : Running s) (hnone : recordOf s e .adoptionLapse = none)
    (hroom : s.table.records.length < 32 ∨ ∃ x ∈ s.table.records, x.state = .suspect) :
    handReport (monitorReport e .adoptionLapse) s =
      confirmRecord e .adoptionLapse (scored (monitorReport e .adoptionLapse) s) := by
  let r := monitorReport e .adoptionLapse
  have hnew : scoredRecord r s = newRecord adoptionLapseParams r s.time.uptime := by
    have hf : findRecord s.table.records r.element r.cls = none := hnone
    rw [scoredRecord, hf]
    rfl
  have hconfirms : shouldConfirm (classParams s.osc.image r.cls) s.map.health (scoredRecord r s) = true := by
    rw [hnew]
    rfl
  have hsuspect : (scoredRecord r s).state = .suspect := by
    rw [hnew]
    rfl
  have htest := testRecord_scored r s
  rw [if_pos ⟨hsuspect, hconfirms⟩] at htest
  exact (handReport_of_running hrun r).trans ((takeReport_of_room (.inr hroom)).trans htest)

/-- The record that a report has confirmed is in the table. -/
theorem confirmRecord_scored_record (r : FaultReport) (s : State) :
    ∃ x ∈ (confirmRecord r.element r.cls (scored r s)).table.records,
      x.element = r.element ∧ x.cls = r.cls ∧ x.state = .confirmed := by
  have hf := findRecord_scoredRecords r s
  have hpair := List.find?_some hf
  obtain ⟨he, hc⟩ := ofPair_iff.mp hpair
  refine ⟨confirmed s.time.uptime (scoredRecord r s), ?_, he, hc, rfl⟩
  rw [confirmRecord_records]
  refine List.mem_map.mpr ⟨scoredRecord r s, List.mem_of_find?_eq_some hf, ?_⟩
  rw [if_pos hpair]
  rfl

/-! ### The isolated controller -/

theorem drive_of_controller (d : DrivePort) :
    controllerOf (portOfDrive d) = .frontCtl ∨ controllerOf (portOfDrive d) = .rearCtl := by
  cases d
  · exact .inl rfl
  · exact .inr rfl

/-- A controller that goes out leaves its drive port owing nothing, with its latch clear and its permit low (R98,
R103). -/
theorem changeHealth_drive_out {d : DrivePort} {h : Health} {s : State} (c : Option FaultClass)
    (hin : isOut (s.map.health.get (controllerOf (portOfDrive d))) = false) (hout : isOut h = true) :
    let t := changeHealth (controllerOf (portOfDrive d)) h c s
    t.unit.adoption.get d =
      { lastAdopted := (s.unit.adoption.get d).lastAdopted, pending := false, deadline := none, latch := false } ∧
    drivenLevel t.permit.outputs d = false := by
  intro t
  have hne : s.map.health.get (controllerOf (portOfDrive d)) ≠ h := fun heq => by
    rw [heq, hout] at hin
    cases hin
  have hgoes : (!isOut (s.map.health.get (controllerOf (portOfDrive d))) && isOut h) = true := by
    rw [hin, hout]
    rfl
  have hrequired : portRequired t d = false := by
    rw [portRequired, portInService_changeHealth, if_pos rfl, hout]
    exact Bool.and_false _
  have hannounced : (announce (controllerOf (portOfDrive d)) (s.map.health.get (controllerOf (portOfDrive d))) h
      s).unit.adoption.get d =
      { lastAdopted := (s.unit.adoption.get d).lastAdopted, pending := false, deadline := none, latch := false } := by
    rw [announce_adoption, if_neg (fun hn => hn rfl), if_pos hgoes]
  have hadoption : t.unit.adoption.get d =
      { lastAdopted := (s.unit.adoption.get d).lastAdopted, pending := false, deadline := none, latch := false } := by
    rw [changeHealth_adoption c hne, hrequired, hannounced]
    exact ite_self _
  have hagree : OutputsAgree t := by
    have houtputs := changeHealth_outputs c hne
    rw [if_neg fun hn => hn.2 ⟨hgoes, drive_of_controller d⟩] at houtputs
    rw [OutputsAgree, changeHealth_osc]
    exact houtputs
  refine ⟨hadoption, ?_⟩
  rw [drivenLevel_of_agree hagree, latchOf, hadoption]
  exact Bool.and_false _

/-- The report of a lapse on a controller that serves, with room for its record, isolates it (R24, R97). -/
theorem lapse_isolates {d : DrivePort} {s : State} (hrun : Running s)
    (hhealth : s.map.health.get (controllerOf (portOfDrive d)) = .inService ∨
      s.map.health.get (controllerOf (portOfDrive d)) = .degraded)
    (hnone : recordOf s (controllerOf (portOfDrive d)) .adoptionLapse = none)
    (hroom : s.table.records.length < 32 ∨ ∃ x ∈ s.table.records, x.state = .suspect) :
    let t := handReport (monitorReport (controllerOf (portOfDrive d)) .adoptionLapse) s
    t.map.health.get (controllerOf (portOfDrive d)) = .isolated ∧
    t.unit.adoption.get d =
      { lastAdopted := (s.unit.adoption.get d).lastAdopted, pending := false, deadline := none, latch := false } ∧
    drivenLevel t.permit.outputs d = false ∧
    ∃ x ∈ t.table.records,
      x.element = controllerOf (portOfDrive d) ∧ x.cls = .adoptionLapse ∧ x.state = .confirmed := by
  intro t
  let r := monitorReport (controllerOf (portOfDrive d)) .adoptionLapse
  let w := voidIfNamed r.element (recordConfirmed r.element r.cls (scored r s))
  have hconfirm : t = confirmRecord r.element r.cls (scored r s) := handReport_of_lapse hrun hnone hroom
  have hmap : w.map = s.map := by simp [w, scored]
  have hunit : w.unit = s.unit := by simp [w, scored]
  have htrial : (scored r s).map.health.get r.element ≠ .trial := by
    show s.map.health.get (controllerOf (portOfDrive d)) ≠ .trial
    rcases hhealth with h | h <;> rw [h] <;> decide
  have hisolates : ∀ k, confirmedHealth (s.map.health.get (controllerOf (portOfDrive d)))
      (classParams k .adoptionLapse).action (classParams k .adoptionLapse).retained = .isolated := fun k => by
    rcases hhealth with h | h <;> rw [h] <;> rfl
  have hclaim : t = changeHealth (controllerOf (portOfDrive d)) .isolated (some .adoptionLapse) w := by
    rw [hconfirm, confirmRecord_eq_changeHealth htrial]
    exact congrArg (fun h => changeHealth r.element h (some r.cls) w) (hisolates s.osc.image)
  have hin : isOut (w.map.health.get (controllerOf (portOfDrive d))) = false := by
    rw [hmap]
    rcases hhealth with h | h <;> rw [h] <;> rfl
  obtain ⟨hadoption, hlevel⟩ := changeHealth_drive_out (s := w) (some .adoptionLapse) hin (h := .isolated) rfl
  rw [← hclaim, hunit] at hadoption
  rw [← hclaim] at hlevel
  refine ⟨?_, hadoption, hlevel, ?_⟩
  · rw [hclaim, changeHealth_health, PerElement.get_set_self]
  · rw [hconfirm]
    exact confirmRecord_scored_record r s

/-- Settles O19: the lapse is its report and the restart; a controller that the report isolates is out of service, and
nothing is restarted. -/
theorem adoptionLapseIsReported : Obligations.AdoptionLapseIsReported := by
  unfold Obligations.AdoptionLapseIsReported
  intro d s hheld hrun hdue e u
  have hlapse := adoptionDeadlineExpiry_of_due hrun hdue
  refine ⟨next_unlessHeld hheld ?_, fun hhealth hnone hroom => ?_⟩
  · have himage : u.osc.image = s.osc.image := congrArg (·.image) (handReport_osc _ _)
    rw [hlapse, restartAdoption_eq, ← himage]
    rfl
  · obtain ⟨hisolated, hadoption, hlevel, hrecord⟩ := lapse_isolates (d := d)
      (s := setAdoption d { s.unit.adoption.get d with deadline := none } s) (.inr hrun) hhealth hnone hroom
    have hout : portInService u (portOfDrive d) = false := by
      rw [portInService, inService]
      exact congrArg (fun h => !isOut h) hisolated
    refine ⟨u, next_unlessHeld hheld (hlapse.trans (restartAdoption_of_out hout)), hisolated, ?_, hlevel, hrecord⟩
    refine hadoption.trans ?_
    simp

end Sys2Proof.Machine
end

section
/-! The resets, and the part that they hold (O29). -/

namespace Sys2Proof.Machine

/-- While the part is held in reset, POWER_ON_RESET and RESET_END alone have an effect (R104, R158; assumption 9). -/
theorem exec_of_held {i : Instr} {s : State} (hheld : s.time.held = true) (hpower : ∀ c1 c0, i ≠ .powerOnReset c1 c0)
    (hend : i ≠ .resetEnd) : exec i s = .next s := by
  have request : ∀ {p : Port} {code : Byte} {payload : List Byte} {disarms : Bool} {act : State → Taken},
      (.next (takeRequest p code payload disarms act s) : Host.Outcome State Fault Refusal) = .next s :=
    congrArg _ (takeRequest_of_held hheld)
  have event : ∀ f : State → State, (.next (unlessHeld f s) : Host.Outcome State Fault Refusal) = .next s :=
    fun _ => congrArg _ (if_pos hheld)
  cases i
  case readStatus | readEnvelope | readElement | readFault | readRetained | readNotice | readConfig | checkIn | report
    | setFloor | adopt | release | consent | veto | start | writeConfig | serviceArm | serviceClear => exact request
  case unknownRequest p code payload =>
    show (.next (unknownRequest p code payload s) : Host.Outcome State Fault Refusal) = _
    unfold unknownRequest
    split
    · rfl
    · exact request
  case powerOnReset c1 c0 => exact absurd rfl (hpower c1 c0)
  case resetEnd => exact absurd rfl hend
  case frameDiscard | gapDiscard | replyComplete | keyCycleReset | decayExpiry | checkInDeadlineExpiry | dwellExpiry
    | adoptionDeadlineExpiry | ballotWindowExpiry | trialExpiry | startWindowExpiry | integrityCheckExpiry | lineQualify
    | lineUnqualify | lineEdge | readbackMismatch | svcDeasserted | lineSample | readbackSample | svcAsserted
    | millisecondTick | configurationImageCorruption | frameStart => exact event _

/-- RESET_END of a part that is held lets it go, with uptime 0 (R158, R160). -/
theorem resetEnd_of_held {s : State} (hheld : s.time.held = true) : exec .resetEnd s = .next (endReset s) :=
  congrArg _ (if_pos hheld)

/-- Settles O29: a power-on reset by the four strap values, and the part that a reset holds. -/
theorem resetsGiveTheResetValues : Obligations.ResetsGiveTheResetValues := by
  unfold Obligations.ResetsGiveTheResetValues
  refine ⟨fun c1 c0 s => ?_, fun s hheld => next_unlessHeld hheld rfl, fun s => resetEnd_of_held,
    fun i s => exec_of_held⟩
  cases c1 <;> cases c0 <;> rfl

end Sys2Proof.Machine
end

section
/-! The SVC samples, the millisecond boundary and the corruption of the image (O34). -/

namespace Sys2Proof.Machine

/-- Outside FAILSAFE the timers count with the uptime (R111, R159). -/
theorem tick_of_not_failsafe {s : State} (hp : s.osc.part ≠ .failsafe) : tick s = tickTimers (tickUptime s) := if_neg hp

/-- Settles O34: each input and the clock, of a part that is not held. -/
theorem clockAndInputsAreTaken : Obligations.ClockAndInputsAreTaken := by
  unfold Obligations.ClockAndInputsAreTaken
  intro s hheld
  refine ⟨next_unlessHeld hheld ?asserted, next_unlessHeld hheld ?deasserted,
    fun hp => next_unlessHeld hheld (tick_of_failsafe hp), fun hp => next_unlessHeld hheld ?counted,
    fun k b hfrozen => next_unlessHeld hheld (if_pos hfrozen)⟩
  case asserted => rw [sampleSvc, Bool.and_true]
  case deasserted => rw [sampleSvc, Bool.and_false]
  case counted =>
    rw [tick_of_not_failsafe hp]
    rfl

end Sys2Proof.Machine
end

section
/-! The arm, the cause record, the frozen digest, the image, the mismatch counters and the ports of a part that is not
held in reset: what keeps them, one operation at a time. -/

namespace Sys2Proof.Machine

/-! ### A part in order -/

/-- The part is not held in reset, and the arm, the cause record, the frozen digest, the image, the mismatch counters
and the ports are as their rules say. -/
structure Orderly (s : State) : Prop where
  awake : s.time.held = false
  arm : ArmOnlyInConfig s
  controller : ControllerAgrees s
  image : ImageLength s
  counters : CountersBounded s
  replies : RepliesAgree s

/-- A change that leaves the reset, the mismatch counters, and every port's receiver and reply as they are. -/
structure Aside (s t : State) : Prop where
  held : t.time.held = s.time.held
  mismatch : t.permit.mismatch = s.permit.mismatch
  receiver : ∀ p, (t.ports.get p).receiver = (s.ports.get p).receiver
  reply : ∀ p, (t.ports.get p).reply = (s.ports.get p).reply

theorem Aside.of_ports {s t : State} (held : t.time.held = s.time.held)
    (mismatch : t.permit.mismatch = s.permit.mismatch) (ports : t.ports = s.ports) : Aside s t where
  held := held
  mismatch := mismatch
  receiver _ := by rw [ports]
  reply _ := by rw [ports]

section
variable {s t : State} (hs : Orderly s)
include hs

theorem Orderly.of_controller (h : Aside s t) (arm : ArmOnlyInConfig t) (controller : ControllerAgrees t)
    (image : ImageLength t) : Orderly t where
  awake := h.held.trans hs.awake
  arm := arm
  controller := controller
  image := image
  counters d := by
    rw [h.mismatch]
    exact hs.counters d
  replies p := by
    rw [h.receiver, h.reply]
    exact hs.replies p

/-- The controller may end the arm, put an image of the same length in the place of the one that it holds, and change
what `Orderly` does not speak of. -/
theorem Orderly.of_fields (h : Aside s t) (part : t.osc.part = s.osc.part) (svc : t.osc.svc = s.osc.svc)
    (arm : t.osc.arm = true → s.osc.arm = true) (frozen : t.osc.frozen = s.osc.frozen)
    (cause : t.osc.cause = s.osc.cause) (image : t.osc.image.length = s.osc.image.length) : Orderly t := by
  refine hs.of_controller h (fun ha => ?_) ?_ (image.trans hs.image)
  · rw [part, svc]
    exact hs.arm (arm ha)
  · rw [ControllerAgrees, part, frozen, cause]
    exact hs.controller

theorem Orderly.of_osc (h : Aside s t) (osc : t.osc = s.osc) : Orderly t :=
  hs.of_fields h (by rw [osc]) (by rw [osc]) (by rw [osc]; exact id) (by rw [osc]) (by rw [osc]) (by rw [osc])

/-- A change outside the time, the ports, the counters and the controller. -/
theorem Orderly.of_eq (time : t.time = s.time) (ports : t.ports = s.ports)
    (mismatch : t.permit.mismatch = s.permit.mismatch) (osc : t.osc = s.osc) : Orderly t :=
  hs.of_osc (.of_ports (by rw [time]) mismatch ports) osc

/-! ### The shared operations -/

theorem Orderly.handReport (r : FaultReport) : Orderly (handReport r s) :=
  hs.of_osc ⟨by simp, by simp, by simp, by simp⟩ (by simp)

theorem Orderly.startVoteReports : Orderly (startVoteReports s) :=
  hs.of_osc ⟨by simp, by simp, by simp, by simp⟩ (by simp)

theorem Orderly.recompute : Orderly (recompute s) := hs.of_osc ⟨by simp, by simp, by simp, by simp⟩ (by simp)

theorem Orderly.changeEnvelope (v : Envelope) : Orderly (changeEnvelope v s) :=
  hs.of_osc ⟨by simp, by simp, by simp, by simp⟩ (by simp)

theorem Orderly.closeBallot (o : Option TrialOutcome) : Orderly (closeBallot o s) :=
  hs.of_osc ⟨by simp, by simp, by simp, by simp⟩ (by simp)

theorem Orderly.startTrial (slot : TrialSlot) (e : Element) : Orderly (startTrial slot e s) :=
  hs.of_osc ⟨by simp, by simp, by simp, by simp⟩ (by simp)

theorem Orderly.passTrial (slot : TrialSlot) (x : Trial) : Orderly (passTrial slot x s) :=
  hs.of_osc ⟨by simp, by simp, by simp, by simp⟩ (by simp)

theorem Orderly.supervise (p : Port) : Orderly (supervise p s) := hs.of_eq (by simp) (by simp) (by simp) (by simp)

theorem Orderly.setContact (p : Port) (t : Timer) : Orderly (setContact p t s) := hs.of_eq rfl rfl rfl rfl

theorem Orderly.setFloorOf (p : Port) (f : Option ProfileId) : Orderly (setFloorOf p f s) := hs.of_eq rfl rfl rfl rfl

theorem Orderly.setAdoption (d : DrivePort) (v : AdoptionRecord) : Orderly (setAdoption d v s) :=
  hs.of_eq rfl rfl rfl rfl

theorem Orderly.updateOutputs : Orderly (updateOutputs s) := hs.of_eq rfl rfl rfl rfl

theorem Orderly.setDwell (t : Timer) : Orderly (setDwell t s) := hs.of_eq rfl rfl rfl rfl

theorem Orderly.setLine (l : FaultLine) (v : LineFilter) : Orderly (setLine l v s) := hs.of_eq rfl rfl rfl rfl

theorem Orderly.setBallot (b : Option Ballot) : Orderly (setBallot b s) := hs.of_eq rfl rfl rfl rfl

theorem Orderly.setBudget (e : Element) (n : Nat) : Orderly (setBudget e n s) := hs.of_eq rfl rfl rfl rfl

theorem Orderly.unlockEntry (e : Element) : Orderly (unlockEntry e s) := hs.of_eq rfl rfl rfl rfl

/-! ### The controller -/

theorem Orderly.disarm : Orderly (setArm false s) := hs.of_fields (.of_ports rfl rfl rfl) rfl rfl nofun rfl rfl rfl

theorem Orderly.disarmFrom (p : Port) : Orderly (disarmFrom p s) := by
  unfold Machine.disarmFrom
  split
  · exact hs.disarm
  · exact hs

/-- In CONFIG with SVC asserted the arm may be set (R154). -/
theorem Orderly.setArm (hp : s.osc.part = .config) (hsvc : s.osc.svc = true) : Orderly (setArm true s) :=
  hs.of_controller (.of_ports rfl rfl rfl) (fun _ => ⟨hp, hsvc⟩) hs.controller hs.image

theorem Orderly.setImage {image : List Byte} (h : image.length = imageLength) :
    Orderly { s with osc.image := image } :=
  hs.of_controller (.of_ports rfl rfl rfl) hs.arm hs.controller h

/-- STARTING freezes a digest and ends the arm (R156, R168). -/
theorem Orderly.enterStarting (p : Port) (hp : s.osc.part = .config) : Orderly (enterStarting p s) := by
  obtain ⟨hcause, hentered, -, -⟩ := hs.controller
  simp only [hp, reduceCtorEq, iff_false] at hcause hentered
  refine hs.of_controller (.of_ports rfl rfl rfl) nofun ?_ hs.image
  simp [ControllerAgrees, hcause, hentered]

theorem Orderly.joinStarted (p : Port) : Orderly (joinStarted p s) :=
  hs.of_fields (.of_ports rfl rfl rfl) rfl rfl id rfl rfl rfl

/-- RUN keeps the digest that STARTING has frozen (R166). -/
theorem Orderly.runEntry (hp : s.osc.part = .starting) : Orderly (runEntry s) := by
  obtain ⟨hcause, hentered, -, hfrozen⟩ := hs.controller
  simp only [hp, reduceCtorEq, iff_false] at hcause hentered
  refine hs.of_controller ⟨by simp, by simp, by simp, by simp⟩ (fun ha => ?_) ?_ ?_
  · rw [runEntry_osc_arm] at ha
    have := (hs.arm ha).1
    rw [hp] at this
    cases this
  · simp [ControllerAgrees, runEntry_part, hcause, hentered, hfrozen (.inl hp)]
  · rw [ImageLength, runEntry_osc_image]
    exact hs.image

/-- FAILSAFE fills the cause record and ends the arm (R109, R172). -/
theorem Orderly.requestFailsafe {cause : Cause} (hcause : cause ≠ .none) : Orderly (requestFailsafe cause s) := by
  by_cases hp : s.osc.part = .failsafe
  · rwa [requestFailsafe_of_failsafe hp]
  · have aside : Aside s (Machine.requestFailsafe cause s) := ⟨by simp, by simp, by simp, by simp⟩
    rw [requestFailsafe_eq hp] at aside ⊢
    exact hs.of_controller aside nofun ⟨by simp [hcause], by simp, nofun, by simp⟩ hs.image

theorem Orderly.afterWrite (k : Sect) (n : Nat) : Orderly (afterWrite k n s) := by
  unfold Machine.afterWrite
  split
  · split
    · exact hs.setBudget _ _
    · exact hs
  · exact hs.recompute
  · exact hs.recompute
  all_goals exact hs

/-- A write of a checked entry keeps the length of the image (R165, R183). -/
theorem Orderly.acceptWrite {k : Sect} {n : Nat} {entry : List Byte} (h : EntryChecked k n entry) :
    Orderly (acceptWrite k n entry s) :=
  (hs.setImage (length_putEntry h.index (length_of_fieldsInRange h.fields) hs.image)).afterWrite k n

theorem Orderly.corruptImage (n : Nat) (b : Byte) : Orderly (corruptImage n b s) := by
  unfold Machine.corruptImage
  split
  · exact hs.setImage (List.length_set.trans hs.image)
  · exact hs

/-- The arm stays set under an asserted SVC alone (R153, R156). -/
theorem Orderly.sampleSvc (asserted : Bool) : Orderly (sampleSvc asserted s) := by
  refine hs.of_controller (.of_ports rfl rfl rfl) (fun ha => ?_) hs.controller hs.image
  obtain ⟨harm, hsvc⟩ := Bool.and_eq_true_iff.mp ha
  exact ⟨(hs.arm harm).1, hsvc⟩

theorem Orderly.tick : Orderly (tick s) := by
  have counted : Orderly (tickUptime s) := hs.of_osc (.of_ports rfl rfl rfl) rfl
  unfold Machine.tick
  split
  · exact counted
  · exact counted.of_fields (.of_ports rfl rfl rfl) rfl rfl id rfl rfl rfl

/-! ### The counters -/

omit hs in
theorem mismatchAfter_le (n : Nat) (isMatch : Bool) : mismatchAfter n isMatch ≤ 3 := by
  unfold mismatchAfter
  split <;> omega

theorem Orderly.countMismatches (v : Readback) : Orderly (countMismatches v s) := by
  refine ⟨hs.awake, hs.arm, hs.controller, hs.image, fun d => ?_, hs.replies⟩
  cases d <;> exact mismatchAfter_le _ _

/-! ### The ports -/

/-- A port may change as long as it has a reply exactly while it is REPLYING (R173). -/
theorem Orderly.setPort {p : Port} {v : LinkPort} (hv : v.receiver = .replying ↔ v.reply.isSome = true) :
    Orderly (setPort p v s) := by
  refine ⟨hs.awake, hs.arm, hs.controller, hs.image, hs.counters, fun q => ?_⟩
  rw [setPort_ports, PerPort.get_set]
  split
  · exact hv
  · exact hs.replies q

theorem Orderly.onNotices (p : Port) (f : NoticeSet → NoticeSet) : Orderly (onNotices p f s) :=
  hs.setPort (hs.replies p)

theorem Orderly.postBallot (asked : PortSet) (e : Element) : Orderly (postBallot asked e s) :=
  foldl_keeps (P := Orderly) (f := fun s p => Machine.onNotices p (fun v => { v with ballot := some e }) s)
    (fun p _ hu => hu.onNotices p _) _ hs

theorem Orderly.storeFrame (p : Port) (code : Byte) (payload : List Byte) : Orderly (storeFrame p code payload s) :=
  hs.setPort (hs.replies p)

omit hs in
theorem Orderly.sendReply {act : Taken} (h : Orderly act.state) (p : Port) (code : Byte) :
    Orderly (sendReply p code act) := h.setPort (by simp)

/-- The reply goes on through an OVERLAP discard, and any other ends a frame on a port that has no reply (R176). -/
theorem Orderly.discard {p : Port} {k : LinkError} (h : k = .overlap ∨ (s.ports.get p).receiver ≠ .replying) :
    Orderly (discard p k s) := by
  refine ((hs.setPort ?_).disarmFrom p).handReport _
  by_cases hk : k = .overlap
  · simpa [recordError, hk] using hs.replies p
  · have hr : (s.ports.get p).receiver ≠ .replying := h.resolve_left hk
    simpa [recordError, hk, hs.replies p] using hr

theorem Orderly.overlapByte (p : Port) : Orderly (overlapByte p s) := by
  unfold Machine.overlapByte
  split
  · exact hs
  · exact hs.discard (.inl rfl)

/-- The taking of a request keeps the order where its owning block does (R175). -/
theorem Orderly.takeRequest {p : Port} {code : Byte} {payload : List Byte} {disarms : Bool} {act : State → Taken}
    (h : ∀ {u}, Orderly u → Orderly (act u).state) : Orderly (takeRequest p code payload disarms act s) := by
  have framed := hs.storeFrame p code payload
  have disarmed := framed.disarmFrom p
  unfold Machine.takeRequest
  split_ifs with _ hr
  · exact hs
  · exact hs.overlapByte p
  · exact hs.discard (.inr hr)
  · exact Orderly.sendReply (act := refuse .unknown _) disarmed p code
  · exact Orderly.sendReply (act := refuse .range _) disarmed p code
  · exact (h disarmed).sendReply p code
  · exact (h framed).sendReply p code

theorem Orderly.unknownRequest (p : Port) (code : Byte) (payload : List Byte) :
    Orderly (unknownRequest p code payload s) := by
  unfold Machine.unknownRequest
  split
  · exact hs
  · exact hs.takeRequest (act := fun s => refuse .range s) id

theorem Orderly.frameDiscard (p : Port) (kind : FrameError) : Orderly (frameDiscard p kind s) := by
  unfold Machine.frameDiscard
  split
  case h_1 => exact hs.overlapByte p
  case h_2 => exact hs
  case h_3 => exact hs
  case h_4 hr _ => exact hs.discard (.inr (by simp [hr]))
  case h_5 hr _ => exact hs.discard (.inr (by simp [hr]))

theorem Orderly.gapDiscard (p : Port) : Orderly (gapDiscard p s) := by
  unfold Machine.gapDiscard
  split_ifs with hr
  · exact hs.discard (.inr (by simp [hr]))
  · exact hs

theorem Orderly.endReply (p : Port) : Orderly (endReply p s) := by
  unfold Machine.endReply
  split
  · exact hs.setPort (by simp)
  · exact hs

theorem Orderly.startFrame (p : Port) (b : Byte) : Orderly (startFrame p b s) := by
  unfold Machine.startFrame
  split
  case h_1 hr =>
    have hnone := hs.replies p
    rw [hr] at hnone
    exact hs.setPort (by simpa using hnone)
  case h_2 => exact hs
  case h_3 => exact hs.overlapByte p

theorem Orderly.unlessHeld {f : State → State} (h : Orderly (f s)) : Orderly (unlessHeld f s) := by
  unfold Machine.unlessHeld
  split
  · exact hs
  · exact h

end

end Sys2Proof.Machine
end

section
/-! Every command keeps the arm, the cause record, the frozen digest, the image, the mismatch counters and the ports as
their rules say; a reset sets them so, and holds a quiet part (O53). -/

namespace Sys2Proof.Machine

/-! ### The owning blocks -/

section
variable {s : State} (hs : Orderly s)
include hs

theorem Orderly.readNotice (p : Port) : Orderly (readNotice p s).state :=
  hs.onNotices p (fun v => (nextNotice s.recovery v).2)

theorem Orderly.checkIn (p : Port) : Orderly (checkIn p s).state := by
  unfold Machine.checkIn
  split_ifs
  · exact hs
  · exact hs.setContact p _
  · exact hs

theorem Orderly.report (p : Port) (e c : Byte) (detail : Option Half) : Orderly (report p e c detail s).state := by
  rcases report_state p e c detail s with h | ⟨e', c', h⟩ <;> rw [h]
  · exact hs
  · exact hs.handReport _

theorem Orderly.setFloor (p : Port) (profile : Byte) : Orderly (setFloor p profile s).state := by
  rcases setFloor_state p profile s with h | ⟨f, h⟩ <;> rw [h]
  · exact hs
  · exact (hs.setFloorOf p f).recompute

theorem Orderly.adopt (p : Port) (generation : Half) : Orderly (adopt p generation s).state := by
  rcases adopt_state p generation s with h | ⟨d, v, h⟩ <;> rw [h]
  · exact hs
  · exact (hs.setAdoption d v).updateOutputs

theorem Orderly.passBallot (b : Ballot) : Orderly (passBallot b s).state := by
  unfold Machine.passBallot
  split
  · exact (hs.closeBallot none).startTrial _ _
  · exact hs.closeBallot (some (.voided .noSlot))

theorem Orderly.openBallot (p : Port) (e : Element) : Orderly (openBallot p e s).state := by
  have opened := hs.setBallot (some (newBallot p e s))
  unfold Machine.openBallot
  dsimp only
  split
  · exact opened.passBallot _
  · exact opened.postBallot _ _

theorem Orderly.release (p : Port) (element : Byte) : Orderly (release p element s).state := by
  rcases release_state p element s with h | ⟨e, h⟩ <;> rw [h]
  · exact hs
  · exact hs.openBallot p e

theorem Orderly.answerBallot (p : Port) (b : Ballot) : Orderly (answerBallot p b s).state := by
  unfold Machine.answerBallot
  split
  · exact hs
  · have answered := (hs.setBallot (some { b with answered := b.answered.set p true })).onNotices p
      fun v => { v with ballot := none }
    dsimp only
    split
    · exact answered.passBallot _
    · exact answered

theorem Orderly.consent (p : Port) (element : Byte) : Orderly (consent p element s).state := by
  unfold Machine.consent
  split
  · exact hs
  · exact hs.answerBallot p _

theorem Orderly.veto (p : Port) (element : Byte) : Orderly (veto p element s).state := by
  unfold Machine.veto
  split
  · exact hs
  · exact hs.closeBallot (some .vetoed)

theorem Orderly.acceptStart (p : Port) (hp : s.osc.part = .config ∨ s.osc.part = .starting) :
    Orderly (acceptStart p s) := by
  unfold Machine.acceptStart
  dsimp only
  split_ifs with hconfig
  · exact (hs.enterStarting p hconfig).supervise p
  · exact hs
  · exact ((hs.joinStarted p).supervise p).runEntry (by simpa using hp.resolve_left hconfig)
  · exact (hs.joinStarted p).supervise p

theorem Orderly.start (p : Port) (named : Half) : Orderly (start p named s).state := by
  unfold Machine.start
  split_ifs with hfailsafe hrun
  · exact hs
  · exact hs
  · exact hs
  · refine hs.acceptStart p ?_
    cases hp : s.osc.part <;> simp_all

theorem Orderly.writeConfig (p : Port) (k n : Byte) (entry : List Byte) :
    Orderly (writeConfig p k n entry s).state := by
  rcases writeConfig_state p k n entry s with h | ⟨_, _, -, hchecked, h⟩ <;> rw [h]
  · exact hs
  · exact hs.acceptWrite hchecked

theorem Orderly.serviceArm (p : Port) : Orderly (serviceArm p s).state := by
  unfold Machine.serviceArm
  split_ifs with _ hp _ hsvc
  · exact hs
  · exact hs
  · exact hs
  · exact hs
  · exact hs.setArm (not_not.mp hp) (by simpa using hsvc)

theorem Orderly.serviceClear (p : Port) (which : Byte) : Orderly (serviceClear p which s).state := by
  rcases serviceClear_state p which s with h | ⟨es, h⟩ <;> rw [h]
  · exact hs
  · exact foldl_keeps (P := Orderly) (f := fun s e => Machine.unlockEntry e s) (fun e _ hu => hu.unlockEntry e) es
      hs.disarm

/-! ### The timers -/

theorem Orderly.decayExpiry (e : Element) (c : FaultClass) : Orderly (decayExpiry e c s) := by
  unfold Machine.decayExpiry
  split
  · exact hs
  · split
    · unfold takeDecay
      dsimp only
      split <;> exact hs.of_eq rfl rfl rfl rfl
    · exact hs

theorem Orderly.checkInDeadlineExpiry (p : Port) : Orderly (checkInDeadlineExpiry p s) := by
  unfold Machine.checkInDeadlineExpiry
  split
  · exact (hs.setContact p _).handReport _
  · exact hs

theorem Orderly.dwellExpiry : Orderly (dwellExpiry s) := by
  unfold Machine.dwellExpiry
  split
  · exact (hs.setDwell none).changeEnvelope _
  · exact hs

theorem Orderly.restartAdoption (d : DrivePort) : Orderly (restartAdoption d s) := by
  unfold Machine.restartAdoption
  dsimp only
  split
  · exact hs.setAdoption d _
  · exact hs

theorem Orderly.adoptionDeadlineExpiry (d : DrivePort) : Orderly (adoptionDeadlineExpiry d s) := by
  unfold Machine.adoptionDeadlineExpiry
  split
  · exact ((hs.setAdoption d _).handReport _).restartAdoption d
  · exact hs

theorem Orderly.ballotWindowExpiry : Orderly (ballotWindowExpiry s) := by
  unfold Machine.ballotWindowExpiry
  split
  · exact hs
  · split
    · exact hs.closeBallot _
    · exact hs

theorem Orderly.trialExpiry (slot : TrialSlot) : Orderly (trialExpiry slot s) := by
  unfold Machine.trialExpiry
  split
  · exact hs
  · split
    · exact hs.passTrial slot _
    · exact hs

theorem Orderly.startWindowExpiry : Orderly (startWindowExpiry s) := by
  unfold Machine.startWindowExpiry
  split_ifs with hdue
  · obtain ⟨hp, -⟩ := Bool.and_eq_true_iff.mp hdue
    exact hs.startVoteReports.runEntry (by simpa using hp)
  · exact hs

theorem Orderly.integrityCheckExpiry : Orderly (integrityCheckExpiry s) := by
  have reloaded : Orderly { s with osc.integrity := some integrityPeriod } :=
    hs.of_fields (.of_ports rfl rfl rfl) rfl rfl id rfl rfl rfl
  unfold Machine.integrityCheckExpiry checkIntegrity
  split_ifs
  · exact reloaded
  · exact reloaded.requestFailsafe (by decide)
  · exact hs

/-! ### The samples -/

theorem Orderly.sampleLevel (l : FaultLine) (high : Bool) : Orderly (sampleLevel l high s) := by
  unfold Machine.sampleLevel
  dsimp only
  split
  · exact (hs.setLine l _).handReport _
  · exact hs.setLine l _

theorem Orderly.sampleEdge (l : FaultLine) (high : Bool) : Orderly (sampleEdge l high s) := by
  unfold Machine.sampleEdge
  dsimp only
  split
  · exact hs.setLine l _
  · split
    · exact (hs.setLine l _).handReport _
    · exact hs.setLine l _

theorem Orderly.sampleLine (l : FaultLine) (high : Bool) : Orderly (sampleLine l high s) := by
  unfold Machine.sampleLine
  split
  · split
    · exact hs.sampleLevel l high
    · exact hs.sampleEdge l high
  · exact hs

/-- An event that a line's sample would bring about is that sample, or does not take place. -/
theorem Orderly.sampleLine_or_idle (taken : Prop) [Decidable taken] (l : FaultLine) (high : Bool) :
    Orderly (if taken then Machine.sampleLine l high s else s) := by
  split
  · exact hs.sampleLine l high
  · exact hs

theorem Orderly.sampleReadback (first : DrivePort) (v : Readback) : Orderly (sampleReadback first v s) := by
  rcases sampleReadback_cases first v s with h | ⟨d, -, h⟩ <;> rw [h]
  · exact hs.countMismatches v
  · exact (hs.countMismatches v).requestFailsafe (by cases d <;> decide)

theorem Orderly.readbackMismatch (m : ThirdMismatch) : Orderly (readbackMismatch m s) := by
  unfold Machine.readbackMismatch
  split
  · exact hs.sampleReadback _ _
  · exact hs

end

/-! ### Every command -/

theorem exec_orderly {i : Instr} {s t : State} (hs : Orderly s) (hi : isReset i = false) (h : exec i s = .next t) :
    Orderly t := by
  have reads : ∀ {p : Port} {code : Byte} {payload : List Byte} {disarms : Bool} {act : State → Taken},
      (∀ u, (act u).state = u) → Orderly (takeRequest p code payload disarms act s) :=
    fun h => hs.takeRequest fun {u} hu => by rwa [h u]
  cases i <;> obtain rfl := Host.Outcome.next.inj h
  case readStatus p page => exact reads (readStatus_state p page)
  case readEnvelope p => exact reads fun _ => rfl
  case readElement p n => exact reads (readElement_state n)
  case readFault p n => exact reads (readFault_state n)
  case readRetained p n => exact reads (readRetained_state n)
  case readNotice p => exact hs.takeRequest (·.readNotice p)
  case readConfig p k n => exact reads (readConfig_state k n)
  case checkIn p => exact hs.takeRequest (·.checkIn p)
  case report p e c detail => exact hs.takeRequest (·.report p e c detail)
  case setFloor p profile => exact hs.takeRequest (·.setFloor p profile)
  case adopt p generation => exact hs.takeRequest (·.adopt p generation)
  case release p element => exact hs.takeRequest (·.release p element)
  case consent p element => exact hs.takeRequest (·.consent p element)
  case veto p element => exact hs.takeRequest (·.veto p element)
  case start p named => exact hs.takeRequest (·.start p named)
  case writeConfig p k n entry => exact hs.takeRequest (·.writeConfig p k n entry)
  case serviceArm p => exact hs.takeRequest (·.serviceArm p)
  case serviceClear p which => exact hs.takeRequest (·.serviceClear p which)
  case unknownRequest p code payload => exact hs.unknownRequest p code payload
  case frameDiscard p kind => exact hs.unlessHeld (hs.frameDiscard p kind)
  case gapDiscard p => exact hs.unlessHeld (hs.gapDiscard p)
  case replyComplete p => exact hs.unlessHeld (hs.endReply p)
  case powerOnReset a b => cases hi
  case keyCycleReset => cases hi
  case resetEnd => rwa [if_neg (by simp [hs.awake])]
  case decayExpiry e c => exact hs.unlessHeld (hs.decayExpiry e c)
  case checkInDeadlineExpiry p => exact hs.unlessHeld (hs.checkInDeadlineExpiry p)
  case dwellExpiry => exact hs.unlessHeld hs.dwellExpiry
  case adoptionDeadlineExpiry d => exact hs.unlessHeld (hs.adoptionDeadlineExpiry d)
  case ballotWindowExpiry => exact hs.unlessHeld hs.ballotWindowExpiry
  case trialExpiry slot => exact hs.unlessHeld (hs.trialExpiry slot)
  case startWindowExpiry => exact hs.unlessHeld hs.startWindowExpiry
  case integrityCheckExpiry => exact hs.unlessHeld hs.integrityCheckExpiry
  case lineQualify l => exact hs.unlessHeld (hs.sampleLine_or_idle _ l _)
  case lineUnqualify l => exact hs.unlessHeld (hs.sampleLine_or_idle _ l _)
  case lineEdge l => exact hs.unlessHeld (hs.sampleLine_or_idle _ l _)
  case readbackMismatch m => exact hs.unlessHeld (hs.readbackMismatch m)
  case svcDeasserted => exact hs.unlessHeld (hs.sampleSvc false)
  case lineSample l high => exact hs.unlessHeld (hs.sampleLine l high)
  case readbackSample first levels => exact hs.unlessHeld (hs.sampleReadback first levels)
  case svcAsserted => exact hs.unlessHeld (hs.sampleSvc true)
  case millisecondTick => exact hs.unlessHeld hs.tick
  case configurationImageCorruption k b => exact hs.unlessHeld (hs.corruptImage k.val b)
  case frameStart p b => exact hs.unlessHeld (hs.startFrame p b)

/-! ### The part in reset and out of it -/

/-- The invariant of O53: what `Orderly` says of a part out of reset, of any part, and of one that is held that it is
quiet. -/
def ControllerHolds (s : State) : Prop :=
  ArmOnlyInConfig s ∧ ControllerAgrees s ∧ ImageLength s ∧ HeldIsQuiet s ∧ CountersBounded s ∧ RepliesAgree s

theorem ControllerHolds.orderly {s : State} (hs : ControllerHolds s) (hheld : s.time.held = false) : Orderly s := by
  obtain ⟨harm, hcontroller, himage, -, hcounters, hreplies⟩ := hs
  exact ⟨hheld, harm, hcontroller, himage, hcounters, hreplies⟩

theorem Orderly.holds {s : State} (hs : Orderly s) : ControllerHolds s := by
  refine ⟨hs.arm, hs.controller, hs.image, fun hheld => ?_, hs.counters, hs.replies⟩
  rw [hs.awake] at hheld
  cases hheld

/-- A reset leaves the controller, the counters and the ports at their reset values, over an image of the right length
(R104, R162, R173). -/
theorem resetBlocks_holds {image : List Byte} (himage : image.length = imageLength) (p : Port) (m : RetainedMap)
    (s : State) : ControllerHolds (resetBlocks image p m s) := by
  refine ⟨nofun, ⟨by simp [resetBlocks, State.reset], by simp [resetBlocks, State.reset], fun _ => rfl, ?starting⟩,
    himage, fun _ => ⟨rfl, rfl⟩, fun d => ?counters, fun q => ?replies⟩
  case starting => rintro (h | h) <;> cases h
  case counters => cases d <;> exact Nat.zero_le 3
  case replies => simp [resetBlocks, State.reset, LinkPort.reset]

theorem ControllerHolds.endReset {s : State} (hs : ControllerHolds s) : ControllerHolds (endReset s) := by
  obtain ⟨harm, hcontroller, himage, -, hcounters, hreplies⟩ := hs
  exact ⟨harm, hcontroller, himage, nofun, hcounters, hreplies⟩

/-- Either reset leaves the invariant: over the factory image, or over the image that the part holds (R161, R162). -/
theorem exec_reset_holds {i : Instr} {s t : State} (hs : ControllerHolds s) (hi : isReset i = true)
    (h : exec i s = .next t) : ControllerHolds t := by
  cases i with
  | powerOnReset c1 c0 =>
    obtain rfl := Host.Outcome.next.inj h
    exact resetBlocks_holds factoryImage_length _ _ s
  | keyCycleReset =>
    obtain rfl := Host.Outcome.next.inj h
    have ⟨_, _, himage, _⟩ := hs
    unfold unlessHeld
    split
    · exact hs
    · exact resetBlocks_holds himage _ _ s
  | _ => cases hi

/-- Of a part that is held, a command that is no reset can only end the one that holds it. -/
theorem exec_held_holds {i : Instr} {s t : State} (hs : ControllerHolds s) (hheld : s.time.held = true)
    (hi : isReset i = false) (h : exec i s = .next t) : ControllerHolds t := by
  by_cases hend : i = .resetEnd
  · subst hend
    obtain rfl := Host.Outcome.next.inj ((resetEnd_of_held hheld).symm.trans h)
    exact hs.endReset
  · have hpower : ∀ c1 c0, i ≠ .powerOnReset c1 c0 := by rintro c1 c0 rfl; cases hi
    obtain rfl := Host.Outcome.next.inj ((exec_of_held hheld hpower hend).symm.trans h)
    exact hs

theorem exec_controllerHolds {i : Instr} {s t : State} (hs : ControllerHolds s) (h : exec i s = .next t) :
    ControllerHolds t := by
  cases hi : isReset i with
  | true => exact exec_reset_holds hs hi h
  | false =>
    cases hheld : s.time.held with
    | true => exact exec_held_holds hs hheld hi h
    | false => exact (exec_orderly (hs.orderly hheld) hi h).holds

/-- Settles O53: the command at the front of the queue keeps the invariant, which does not speak of the queue. -/
theorem stepKeepsTheController : Obligations.StepKeepsTheController := by
  unfold Obligations.StepKeepsTheController
  intro s t hs hstep
  unfold step at hstep
  split at hstep
  · obtain rfl := Host.Outcome.next.inj hstep
    exact hs
  · rename_i i rest _
    have front : ControllerHolds { s with pending := rest } := hs
    exact exec_controllerHolds front hstep

end Sys2Proof.Machine
end

section
/-! RELEASE, CONSENT and VETO with their checks, and the ballots that they open, answer and close (O20, O21). -/

namespace Sys2Proof.Machine

/-! ### Sets of ports -/

/-- Two port sets in one byte (R180). -/
theorem twoPortSets_shows (v w : PortSet) : ShowsPorts (twoPortSets v w) 0 v ∧ ShowsPorts (twoPortSets v w) 4 w := by
  simp only [ShowsPorts, twoPortSets, flagByte_getLsbD]
  exact ⟨⟨rfl, rfl, rfl, rfl⟩, ⟨rfl, rfl, rfl, rfl⟩⟩

theorem portsEmpty_iff (v : PortSet) : portsEmpty v = true ↔ ∀ q, v.get q = false := by
  constructor
  · intro h q
    simp only [portsEmpty, Bool.and_eq_true, Bool.not_eq_true'] at h
    cases q <;> simp [PerPort.get, h]
  · intro h
    have hf : v.front = false := h .front
    have hr : v.rear = false := h .rear
    have hp : v.pack = false := h .pack
    have hd : v.ride = false := h .ride
    simp [portsEmpty, hf, hr, hp, hd]

theorem not_portsEmpty {v : PortSet} {q : Port} (h : v.get q = true) : ¬portsEmpty v = true := fun hempty =>
  absurd (((portsEmpty_iff v).mp hempty q).symm.trans h) (by decide)

theorem portsLess_get (v w : PortSet) (q : Port) : (portsLess v w).get q = (v.get q && !w.get q) := by
  cases q <;> rfl

theorem mem_portsIn (v : PortSet) (q : Port) : q ∈ portsIn v ↔ v.get q = true := by simp [portsIn, mem_allPorts]

/-- The consent set of a ballot that opens: the configured consent ports that are in service (R116). -/
theorem consentSet_get (e : Element) (s : State) (q : Port) :
    (consentSet e s).get q = ((elementConfig s.osc.image e).consent.get q && portInService s q) := by
  cases q <;> rfl

/-- The answered set with which a ballot opens: its requester, where it is asked (R119). -/
theorem newBallot_answered_get (p : Port) (e : Element) (s : State) (q : Port) :
    (newBallot p e s).answered.get q = if q = p then (consentSet e s).get p else false := by
  simp [newBallot, PerPort.get_set, noPorts]

/-! ### The BALLOT notices -/

/-- A BALLOT notice posted to some ports, one after the other. -/
theorem foldl_ballotNotice (ps : List Port) (e : Element) (s : State) :
    let t := ps.foldl (fun s p => onNotices p (fun v => { v with ballot := some e }) s) s
    t = { s with ports := t.ports } ∧
    ∀ q, t.ports.get q =
      { s.ports.get q with
        notices := { (s.ports.get q).notices with
          ballot := if q ∈ ps then some e else (s.ports.get q).notices.ballot } } := by
  induction ps generalizing s with
  | nil => exact ⟨rfl, fun q => by simp⟩
  | cons p ps ih =>
    obtain ⟨hrest, hports⟩ := ih (onNotices p (fun v => { v with ballot := some e }) s)
    refine ⟨hrest, fun q => ?_⟩
    rw [List.foldl_cons, hports q, onNotices_ports, PerPort.get_set]
    by_cases hq : q = p
    · simp [hq]
    · simp [hq]

/-- The asked ports have the BALLOT notice, and nothing else has changed (R120). -/
theorem postBallot_eq (asked : PortSet) (e : Element) (s : State) :
    postBallot asked e s = { s with ports := (postBallot asked e s).ports } := (foldl_ballotNotice _ e s).1

theorem postBallot_port (asked : PortSet) (e : Element) (s : State) (q : Port) :
    (postBallot asked e s).ports.get q =
      { s.ports.get q with
        notices := { (s.ports.get q).notices with
          ballot := if asked.get q = true then some e else (s.ports.get q).notices.ballot } } := by
  rw [postBallot, (foldl_ballotNotice _ e s).2 q]
  simp only [mem_portsIn]

/-! ### The trial slots (Table 7.5) -/

theorem slotFor_of_empty {r : RecoveryUnit} (hp : r.primary = none) (hn : r.nested = none) (e : Element) :
    slotFor r e = .ok .primary := by
  simp [slotFor, hp, hn]

theorem slotFor_of_occupied {r : RecoveryUnit} {x : Trial} (hn : r.nested = some x) (e : Element) :
    slotFor r e = .error .busy := by
  cases hp : r.primary <;> simp [slotFor, hp, hn]

theorem slotFor_of_running {r : RecoveryUnit} {x : Trial} (hp : r.primary = some x) (hx : x.state = .running)
    (e : Element) : slotFor r e = .error .busy := by
  cases hn : r.nested with
  | none => simp [slotFor, hp, hn, hx]
  | some y => exact slotFor_of_occupied hn e

theorem slotFor_of_suspended {r : RecoveryUnit} {x : Trial} (hp : r.primary = some x) (hx : x.state = .suspended)
    (hn : r.nested = none) (e : Element) :
    slotFor r e = if elementGroup x.element = elementGroup e then .error .groupHeld else .ok .nested := by
  simp [slotFor, hp, hn, hx]

/-! ### The checks of a RELEASE (Table 7.4) -/

theorem release_of_before_run {s : State} (hp : s.osc.part = .config ∨ s.osc.part = .starting) (p : Port) (n : Byte) :
    release p n s = refuse .notRunning s := by
  rcases hp with hp | hp <;> simp [release, hp]

section
variable {p : Port} {n : Byte} {s : State} (hrun : s.osc.part = .run)
include hrun

theorem release_of_outOfService (hp : portInService s p = false) : release p n s = refuse .outOfService s := by
  simp [release, hrun, hp]

variable (hp : portInService s p = true)
include hp

theorem release_of_out_of_range (h : 10 < n.toNat) : release p n s = refuse .range s := by
  simp [release, hrun, hp, elementOf_of_lt h]

variable {e : Element} (he : elementOf n = some e)
include he

theorem release_of_serving (h : ¬(s.map.health.get e = .isolated ∨ s.map.health.get e = .degraded)) :
    release p n s = refuse .wrongState s := by
  simp only [release, hrun, hp, he, if_pos h]
  rfl

variable (hout : s.map.health.get e = .isolated ∨ s.map.health.get e = .degraded)
include hout

theorem release_of_open (h : s.recovery.ballot ≠ none) : release p n s = refuse .busy s := by
  simp [release, hrun, hp, he, hout, Option.isSome_iff_ne_none.mpr h]

variable (hballot : s.recovery.ballot = none)
include hballot

theorem release_of_no_slot {st : Status} (h : slotFor s.recovery e = .error st) : release p n s = refuse st s := by
  simp [release, hrun, hp, he, hout, hballot, h]

/-- A RELEASE of an element that a slot admits passes the last two checks, or is refused by one of them. -/
theorem release_of_slot {slot : TrialSlot} (h : slotFor s.recovery e = .ok slot) :
    release p n s =
      if s.map.budget.get e = 0 then refuse .noBudget s
      else if portsEmpty (consentSet e s) then refuse .noQuorum s
      else openBallot p e s := by
  simp [release, hrun, hp, he, hout, hballot, h]

end

/-! ### An opened ballot -/

/-- A RELEASE is refused, or in RUN opens a ballot on an ISOLATED or DEGRADED element (R117, R119). -/
theorem release_opens (p : Port) (element : Byte) (s : State) :
    (release p element s).state = s ∨
    ∃ e, s.osc.part = .run ∧ (s.map.health.get e = .isolated ∨ s.map.health.get e = .degraded) ∧
      (release p element s).state = (openBallot p e s).state := by
  unfold release
  repeat' split
  any_goals exact .inl rfl
  exact .inr ⟨_, ‹_›, not_not.mp ‹_›, rfl⟩

/-- A ballot that asks another port than its requester opens, and asks it (R119, R120). -/
theorem openBallot_of_other {p q : Port} {e : Element} {s : State} (hq : (consentSet e s).get q = true) (hne : q ≠ p) :
    openBallot p e s =
      accept (openReply (newBallot p e s).consent (newBallot p e s).answered)
        (postBallot (portsLess (newBallot p e s).consent (newBallot p e s).answered) e
          (setBallot (some (newBallot p e s)) s)) := by
  refine if_neg fun h => ?_
  have hanswered : (newBallot p e s).answered.get q = (newBallot p e s).consent.get q := by rw [h]
  rw [newBallot_answered_get, if_neg hne] at hanswered
  exact absurd (hanswered.trans hq) (by decide)

/-- The ports that an opened ballot asks: those of its consent set but its requester. -/
theorem newBallot_asks (p : Port) (e : Element) (s : State) (k : Port) :
    (portsLess (newBallot p e s).consent (newBallot p e s).answered).get k = true ↔
      (consentSet e s).get k = true ∧ k ≠ p := by
  rw [portsLess_get, newBallot_answered_get]
  show ((consentSet e s).get k && _) = true ↔ _
  by_cases hk : k = p
  · subst hk
    simp
  · simp [hk]

/-- Settles O20: the slots by Table 7.5, the checks of Table 7.4 in turn, and the ballot that an accepted RELEASE
opens. -/
theorem releaseIsCheckedAndOpensABallot : Obligations.ReleaseIsCheckedAndOpensABallot := by
  unfold Obligations.ReleaseIsCheckedAndOpensABallot
  refine ⟨fun r e => ⟨fun hp hn => slotFor_of_empty hp hn e, fun x hp hx => slotFor_of_running hp hx e,
    fun x hp hx hn => slotFor_of_suspended hp hx hn e, fun x hn => slotFor_of_occupied hn e⟩, ?_⟩
  intro p n s hL i
  let r := received p 0x30#8 [n] s
  have refused : ∀ st, release p n r = refuse st r → Refused i st s := fun st h =>
    refused_of_act hL rfl rfl rfl (by simp) rfl h
  refine ⟨fun hp => refused _ (release_of_before_run (s := r) hp p n),
    fun hp => refused _ (release_of_failsafe (s := r) hp p n),
    fun hrun hp => refused _ (release_of_outOfService (s := r) hrun hp),
    fun hrun hp h => refused _ (release_of_out_of_range (s := r) hrun hp h), ?_⟩
  intro e hrun hp hn out
  have he : elementOf n = some e := hn ▸ elementOf_elementCode e
  refine ⟨fun h => refused _ (release_of_serving (s := r) hrun hp he h),
    fun hout h => refused _ (release_of_open (s := r) hrun hp he hout h),
    fun st hout hb h => refused _ (release_of_no_slot (s := r) hrun hp he hout hb h), fun slot hout hb h => ?_⟩
  have hslot := release_of_slot (s := r) hrun hp he hout hb h
  refine ⟨consentSet_get e s, fun h0 => refused _ (hslot.trans (if_pos h0)), fun h0 hnone => ?_, fun q h0 hq hne => ?_⟩
  · have hempty : portsEmpty (consentSet e r) = true := (portsEmpty_iff _).mpr hnone
    exact refused _ (hslot.trans ((if_neg h0).trans (if_pos hempty)))
  · intro _ b
    have hopens := hslot.trans ((if_neg h0).trans ((if_neg (not_portsEmpty hq)).trans (openBallot_of_other hq hne)))
    obtain ⟨t, ht, hanswered⟩ := answered_of_act (i := i) hL rfl (by simp) rfl hopens
    obtain ⟨hconsent, hasked⟩ := twoPortSets_shows b.consent b.answered
    refine ⟨_, _, t, ht, hanswered, hconsent, hasked, postBallot_eq _ e _, fun k => ?_⟩
    rw [postBallot_port]
    simp only [newBallot_asks]
    rfl

/-! ### The checks of a CONSENT and a VETO -/

/-- The byte of an element is its number. -/
theorem eq_of_elementOf {n : Byte} {e : Element} (h : elementOf n = some e) : n = BitVec.ofNat 8 (elementCode e) := by
  obtain ⟨hn, he⟩ := List.getElem?_eq_some_iff.mp h
  have hcode : ∀ k (hk : k < allElements.length), elementCode allElements[k] = k := by decide
  rw [← he, hcode, BitVec.ofNat_toNat, BitVec.setWidth_eq]

section
variable {p : Port} {n : Byte} {s : State}

theorem askedBallot_of_other (hp : s.osc.part ≠ .failsafe)
    (h : ∀ b, s.recovery.ballot = some b → n ≠ BitVec.ofNat 8 (elementCode b.element)) :
    askedBallot p n s = .error .noBallot := by
  rw [askedBallot, if_neg hp]
  cases hb : s.recovery.ballot with
  | none => rfl
  | some b => exact if_pos fun hn => h b hb (eq_of_elementOf hn)

/-- A CONSENT or a VETO on the element of the open ballot is for its asked ports alone (R121, R122). -/
theorem askedBallot_of_named (hp : s.osc.part ≠ .failsafe) {b : Ballot} (hb : s.recovery.ballot = some b)
    (hn : n = BitVec.ofNat 8 (elementCode b.element)) :
    askedBallot p n s = if b.consent.get p = false then .error .notAsked else .ok b := by
  have hnamed : elementOf n = some b.element := hn ▸ elementOf_elementCode b.element
  simp [askedBallot, hp, hb, hnamed]

/-- CONSENT and VETO are refused alike. -/
theorem consent_veto_of_error {st : Status} (h : askedBallot p n s = .error st) :
    consent p n s = refuse st s ∧ veto p n s = refuse st s := by
  simp [consent, veto, h]

theorem consent_of_asked {b : Ballot} (h : askedBallot p n s = .ok b) : consent p n s = answerBallot p b s := by
  simp [consent, h]

theorem veto_of_asked {b : Ballot} (h : askedBallot p n s = .ok b) (hb : s.recovery.ballot = some b) :
    veto p n s = accept vetoedReply (closed b.element .vetoed s) := by
  rw [← closeBallot_outcome hb]
  simp [veto, h]

end

/-! ### An answered ballot -/

section
variable {p : Port} {b : Ballot} (s : State)

theorem answerBallot_of_answered (h : b.answered.get p = true) :
    answerBallot p b s = accept (openReply b.consent b.answered) s := if_pos h

/-- A ballot with a further answer, whose port has its BALLOT notice withdrawn (R121). -/
def ballotAnswered (p : Port) (b : Ballot) (s : State) : State :=
  onNotices p (fun v => { v with ballot := none }) (setBallot (some { b with answered := b.answered.set p true }) s)

theorem answerBallot_of_new (h : b.answered.get p = false) :
    answerBallot p b s =
      if b.answered.set p true = b.consent then
        passBallot { b with answered := b.answered.set p true } (ballotAnswered p b s)
      else accept (openReply b.consent (b.answered.set p true)) (ballotAnswered p b s) := by
  simp only [answerBallot, h, Bool.false_eq_true, if_false]
  rfl

end

/-- Settles O21: the checks that CONSENT and VETO share, a VETO that closes the ballot, and a CONSENT that leaves it
open. -/
theorem consentAndVetoAnswerTheBallot : Obligations.ConsentAndVetoAnswerTheBallot := by
  unfold Obligations.ConsentAndVetoAnswerTheBallot
  intro p n s hL
  let c := received p 0x31#8 [n] s
  let v := received p 0x32#8 [n] s
  have refused : ∀ st, consent p n c = refuse st c → veto p n v = refuse st v →
      Refused (.consent p n) st s ∧ Refused (.veto p n) st s := fun st hc hv =>
    ⟨refused_of_act hL rfl rfl rfl (by simp) rfl hc, refused_of_act hL rfl rfl rfl (by simp) rfl hv⟩
  refine ⟨fun hp => refused _ (consent_of_failsafe (s := c) hp p n) (veto_of_failsafe (s := v) hp p n),
    fun hp h => ?_, fun b hp hb hn => ?_⟩
  · exact refused _ (consent_veto_of_error (askedBallot_of_other (s := c) hp h)).1
      (consent_veto_of_error (askedBallot_of_other (s := v) hp h)).2
  have hc := askedBallot_of_named (p := p) (s := c) hp hb hn
  have hv := askedBallot_of_named (p := p) (s := v) hp hb hn
  refine ⟨fun h => ?_, fun h => ?_, fun h ha => ?_, fun h ha hopen => ?_⟩
  · rw [if_pos h] at hc hv
    exact refused _ (consent_veto_of_error hc).1 (consent_veto_of_error hv).2
  all_goals rw [if_neg (by simp [h])] at hc hv
  · exact answered_of_act hL rfl (by simp) rfl (veto_of_asked hv hb)
  · obtain ⟨t, ht, hanswered⟩ := answered_of_act (i := .consent p n) hL rfl (by simp) rfl
      ((consent_of_asked hc).trans (answerBallot_of_answered c ha))
    obtain ⟨hconsent, hasked⟩ := twoPortSets_shows b.consent b.answered
    exact ⟨_, t, ht, hconsent, hasked, hanswered⟩
  · obtain ⟨t, ht, hanswered⟩ := answered_of_act (i := .consent p n) hL rfl (by simp) rfl
      ((consent_of_asked hc).trans ((answerBallot_of_new c ha).trans (if_neg hopen)))
    obtain ⟨hconsent, hasked⟩ := twoPortSets_shows b.consent (b.answered.set p true)
    exact ⟨_, t, ht, hconsent, hasked, hanswered⟩

end Sys2Proof.Machine
end

section
/-! Ballots that pass, for want of a slot are void, or lapse (O22). -/

namespace Sys2Proof.Machine

section
variable {b : Ballot} {u : State} (hb : u.recovery.ballot = some b)
include hb

theorem passBallot_of_slot {slot : TrialSlot} (h : slotFor u.recovery b.element = .ok slot) :
    passBallot b u = accept (startedReply slot b.consent b.answered) (startTrial slot b.element (passed u)) := by
  simp only [passBallot, h, closeBallot_pass hb]

theorem passBallot_of_no_slot {st : Status} (h : slotFor u.recovery b.element = .error st) :
    passBallot b u = accept noSlotReply (closed b.element (.voided .noSlot) u) := by
  simp only [passBallot, h, closeBallot_outcome hb]

end

/-- What a ballot and its notices were leaves no trace once it has closed (R127). -/
theorem passed_ballotAnswered (p : Port) (b : Ballot) (s : State) : passed (ballotAnswered p b s) = passed s := by
  cases p <;> rfl

theorem closed_ballotAnswered (e : Element) (o : TrialOutcome) (p : Port) (b : Ballot) (s : State) :
    closed e o (ballotAnswered p b s) = closed e o s := by
  cases p <;> rfl

/-- A CONSENT that completes the answered set passes the ballot (R121, R123). -/
theorem answerBallot_of_complete {p : Port} {b : Ballot} (s : State) (h : b.answered.get p = false)
    (hc : b.answered.set p true = b.consent) :
    answerBallot p b s = passBallot { b with answered := b.consent } (ballotAnswered p b s) := by
  rw [answerBallot_of_new s h, if_pos hc, hc]

/-- A ballot that asks its requester alone opens with its answered set complete. -/
theorem newBallot_answered_of_alone {p : Port} {e : Element} {s : State}
    (h : ∀ q, (consentSet e s).get q = true ↔ q = p) : (newBallot p e s).answered = consentSet e s := by
  refine PerPort.ext_get fun q => ?_
  rw [newBallot_answered_get]
  split_ifs with hq
  · rw [hq]
  · exact (Bool.eq_false_iff.mpr fun hn => hq ((h q).mp hn)).symm

/-- A ballot whose requester alone is asked passes as it opens (R119). -/
theorem openBallot_of_alone {p : Port} {e : Element} {s : State} (h : ∀ q, (consentSet e s).get q = true ↔ q = p) :
    openBallot p e s = passBallot (newBallot p e s) (setBallot (some (newBallot p e s)) s) :=
  if_pos (newBallot_answered_of_alone h)

/-- At the end of its window in RUN a ballot lapses (R124). -/
theorem ballotWindowExpiry_of_due {b : Ballot} {s : State} (hrun : s.osc.part = .run) (hb : s.recovery.ballot = some b)
    (h0 : b.window = 0) : ballotWindowExpiry s = closed b.element .lapsed s := by
  rw [← closeBallot_outcome hb]
  simp [ballotWindowExpiry, hb, inRun, hrun, h0]

/-- Settles O22: the completing CONSENT with and without a slot, the RELEASE whose requester alone is asked, and the end
of the window. -/
theorem completedBallotsPassAndOthersLapse : Obligations.CompletedBallotsPassAndOthersLapse := by
  unfold Obligations.CompletedBallotsPassAndOthersLapse
  refine ⟨?consent, ?release, fun s b hheld hrun hb h0 => next_unlessHeld hheld (ballotWindowExpiry_of_due hrun hb h0)⟩
  case consent =>
    intro p s b hL hp hb hasked ha hc n r
    have hok := askedBallot_of_named (p := p) (s := r) hp hb rfl
    rw [if_neg (by simp [hasked])] at hok
    have hpass := (consent_of_asked hok).trans (answerBallot_of_complete r ha hc)
    have hopen : (ballotAnswered p b r).recovery.ballot = some { b with answered := b.consent } :=
      congrArg (fun a => some ({ b with answered := a } : Ballot)) hc
    refine ⟨fun slot h => ?_, fun st h => ?_⟩
    · have hstarts := hpass.trans (passBallot_of_slot hopen h)
      rw [passed_ballotAnswered] at hstarts
      obtain ⟨t, ht, hanswered⟩ := answered_of_act (i := .consent p n) hL rfl (by simp) rfl hstarts
      obtain ⟨hconsent, hanswers⟩ := twoPortSets_shows b.consent b.consent
      exact ⟨_, t, ht, hconsent, hanswers, hanswered⟩
    · have hvoid := hpass.trans (passBallot_of_no_slot hopen h)
      rw [closed_ballotAnswered] at hvoid
      exact answered_of_act hL rfl (by simp) rfl hvoid
  case release =>
    intro p s e slot hL hrun hp hout hb hslot h0 halone n
    let r := received p 0x30#8 [n] s
    have hsome : ¬portsEmpty (consentSet e r) = true := not_portsEmpty ((halone p).mpr rfl)
    have hopens := (release_of_slot (s := r) hrun hp (elementOf_elementCode e) hout hb hslot).trans
      ((if_neg h0).trans ((if_neg hsome).trans (openBallot_of_alone halone)))
    have hstarts := hopens.trans (passBallot_of_slot rfl hslot)
    rw [newBallot_answered_of_alone (s := r) halone] at hstarts
    obtain ⟨t, ht, hanswered⟩ := answered_of_act (i := .release p n) hL rfl (by simp) rfl hstarts
    obtain ⟨hconsent, hanswers⟩ := twoPortSets_shows (consentSet e s) (consentSet e s)
    exact ⟨_, t, ht, hconsent, hanswers, hanswered⟩

end Sys2Proof.Machine
end

section
/-! The trials, the open ballot and the lockouts: what a change of one element's health, of its trial and of its lock
keeps of them, and what the shared operations do (O52). -/

namespace Sys2Proof.Machine

/-! ### The promise -/

/-- Before RUN there is neither ballot nor trial; the trial slots hold what R132 allows; an element is in TRIAL exactly
while a slot holds its trial; an open ballot names an ISOLATED or DEGRADED element; in RUN every locked element is
LOCKED_OUT (R114, R123, R132, R145, R152). -/
structure RecoveryHolds (s : State) : Prop where
  early : s.osc.part = .config ∨ s.osc.part = .starting →
    s.recovery.ballot = none ∧ ∀ e, s.map.health.get e ≠ .trial
  slots : SlotsAgree s.recovery
  flight : ∀ e, s.map.health.get e = .trial ↔ InFlight s.recovery e
  named : ∀ b, s.recovery.ballot = some b →
    s.map.health.get b.element = .isolated ∨ s.map.health.get b.element = .degraded
  locked : RetainedLockedOut s

theorem inFlight_iff (r : RecoveryUnit) (e : Element) :
    InFlight r e ↔ r.primary.map Trial.element = some e ∨ r.nested.map Trial.element = some e := by
  simp [InFlight]

/-- Without an element in TRIAL the slots are empty. -/
theorem RecoveryHolds.empty {s : State} (hs : RecoveryHolds s) (h : ∀ e, s.map.health.get e ≠ .trial) :
    s.recovery.primary = none ∧ s.recovery.nested = none := by
  have none_held : ∀ slot, trialIn s.recovery slot = none := fun slot =>
    Option.eq_none_iff_forall_not_mem.mpr fun x hx => h x.element ((hs.flight _).mpr (inFlight_of_trialIn hx))
  exact ⟨none_held .primary, none_held .nested⟩

theorem recoveryHolds_iff (s : State) :
    RecoveryHolds s ↔ NoRecoveryBeforeRun s ∧ TrialsAgree s ∧ RetainedLockedOut s := by
  constructor
  · intro hs
    refine ⟨fun hp => ?_, ⟨hs.slots, hs.flight, hs.named⟩, hs.locked⟩
    obtain ⟨hballot, htrial⟩ := hs.early hp
    obtain ⟨hprimary, hnested⟩ := hs.empty htrial
    exact ⟨hballot, hprimary, hnested, htrial⟩
  · rintro ⟨hearly, ⟨hslots, hflight, hnamed⟩, hlocked⟩
    refine ⟨fun hp => ?_, hslots, hflight, hnamed, hlocked⟩
    obtain ⟨hballot, -, -, htrial⟩ := hearly hp
    exact ⟨hballot, htrial⟩

/-! ### Changes that leave the promise as it is -/

/-- A change that leaves the part state, the health and the elements of the trials as they are, locks no further entry,
opens no ballot on another element, and keeps what R132 asks of the slots. -/
structure Unmoved (s t : State) : Prop where
  part : t.osc.part = s.osc.part
  health : t.map.health = s.map.health
  locked : ∀ e, (t.retained.entries.get e).locked = true → (s.retained.entries.get e).locked = true
  ballot : ∀ b, t.recovery.ballot = some b → ∃ a, s.recovery.ballot = some a ∧ a.element = b.element
  flight : ∀ e, InFlight t.recovery e ↔ InFlight s.recovery e
  slots : SlotsAgree s.recovery → SlotsAgree t.recovery

theorem Unmoved.trans {s t u : State} (h : Unmoved s t) (k : Unmoved t u) : Unmoved s u where
  part := k.part.trans h.part
  health := k.health.trans h.health
  locked e hl := h.locked e (k.locked e hl)
  ballot b hb := by
    obtain ⟨a, ha, hab⟩ := k.ballot b hb
    obtain ⟨c, hc, hca⟩ := h.ballot a ha
    exact ⟨c, hc, hca.trans hab⟩
  flight e := (k.flight e).trans (h.flight e)
  slots hs := k.slots (h.slots hs)

theorem Unmoved.of_eq {s t : State} (part : t.osc.part = s.osc.part) (health : t.map.health = s.map.health)
    (recovery : t.recovery = s.recovery) (retained : t.retained = s.retained) : Unmoved s t where
  part := part
  health := health
  locked e hl := by rwa [← retained]
  ballot b hb := ⟨b, by rwa [← recovery], rfl⟩
  flight e := by rw [recovery]
  slots hs := by rwa [recovery]

theorem Unmoved.refl (s : State) : Unmoved s s := .of_eq rfl rfl rfl rfl

/-- A quiet change of anything but the state of the trials. -/
theorem Unmoved.of_quiet {s t : State} (h : Quiet s t) (slots : SlotsAgree s.recovery → SlotsAgree t.recovery) :
    Unmoved s t where
  part := h.part
  health := by rw [h.map]
  locked e hl := by rwa [← h.retained]
  ballot b hb := by
    rcases h.ballot with hsame | hnone
    · exact ⟨b, hsame.symm.trans hb, rfl⟩
    · rw [hnone] at hb
      cases hb
  flight e := by rw [inFlight_iff, inFlight_iff, h.primary, h.nested]
  slots := slots

theorem slotsAgree_of_eq {r q : RecoveryUnit} (primary : q.primary = r.primary) (nested : q.nested = r.nested)
    (h : SlotsAgree r) : SlotsAgree q := by
  unfold SlotsAgree
  rw [primary, nested]
  exact h

/-- With NESTED empty there is nothing to ask of the slots (R132). -/
theorem slotsAgree_of_nested_none {r : RecoveryUnit} (h : r.nested = none) : SlotsAgree r := by
  intro n hn
  rw [h] at hn
  cases hn

/-- An evaluation of PRIMARY leaves it SUSPENDED before an occupied NESTED slot (R139, Table 8.5). -/
theorem slotsAgree_of_evaluated {r q : RecoveryUnit} {v : Envelope}
    (primary : q.primary = r.primary ∨ q.primary = r.primary.map (evaluatedTrial r.nested v))
    (nested : q.nested = r.nested) (h : SlotsAgree r) : SlotsAgree q := by
  intro n hn
  rw [nested] at hn
  obtain ⟨hrunning, x, hx, hsuspended, hgroups⟩ := h n hn
  have hstays : evaluatedTrial r.nested v x = x :=
    evaluatedTrial_of_nested (by rw [hn]; exact Option.some_ne_none n) hsuspended v
  refine ⟨hrunning, x, ?_, hsuspended, hgroups⟩
  rcases primary with hp | hp <;> rw [hp, hx]
  rw [Option.map_some, hstays]

theorem unmoved_evaluatePrimary (s : State) : Unmoved s (evaluatePrimary s) :=
  .of_quiet (quiet_evaluatePrimary s) (slotsAgree_of_evaluated (.inr (evaluatePrimary_primary s)) (by simp))

theorem unmoved_changeEnvelope (v : Envelope) (s : State) : Unmoved s (changeEnvelope v s) := by
  refine .of_quiet (quiet_changeEnvelope v s) (slotsAgree_of_evaluated (v := v) ?_ (by simp))
  rw [changeEnvelope_primary]
  exact ite_eq_or_eq _ _ _

theorem unmoved_recompute (s : State) : Unmoved s (recompute s) := by
  rw [recompute_eq]
  exact Unmoved.trans (t := setDwell _ (computeTarget s)) (.of_eq rfl rfl rfl rfl) (unmoved_changeEnvelope _ _)

theorem unmoved_closeBallot (o : Option TrialOutcome) (s : State) : Unmoved s (closeBallot o s) :=
  .of_quiet (quiet_closeBallot o s) (slotsAgree_of_eq (by simp) (by simp))

theorem unmoved_foldl {α : Type} {f : State → α → State} (hf : ∀ a s, Unmoved s (f s a)) (as : List α) (s : State) :
    Unmoved s (as.foldl f s) :=
  foldl_keeps (P := Unmoved s) (fun a u hu => hu.trans (hf a u)) as (.refl s)

theorem unmoved_postBallot (asked : PortSet) (e : Element) (s : State) : Unmoved s (postBallot asked e s) :=
  unmoved_foldl (f := fun s p => onNotices p (fun v => { v with ballot := some e }) s)
    (fun _ _ => .of_eq rfl rfl rfl rfl) _ s

theorem unmoved_overflowed (s : State) : Unmoved s (overflowed s) := by
  unfold overflowed
  split
  · exact .refl s
  · exact Unmoved.trans (t := { s with table.overflow := true }) (.of_eq rfl rfl rfl rfl) (unmoved_recompute _)

theorem unmoved_firstEnvelope (s : State) : Unmoved s (firstEnvelope s) := by
  have computed : Unmoved s (setDwell none (computeTarget s)) := .of_eq rfl rfl rfl rfl
  have changed := computed.trans (unmoved_changeEnvelope (computeTarget s).unit.target.env _)
  exact changed.trans (.of_eq rfl rfl rfl rfl)

theorem unmoved_adoptionRound (s : State) : Unmoved s (adoptionRound s) :=
  .of_eq (by simp) (by simp) (by simp) (by simp)

theorem unmoved_supervise (p : Port) (s : State) : Unmoved s (supervise p s) :=
  .of_eq (by simp) (by simp) (by simp) (by simp)

theorem unmoved_unlockEntry (e : Element) (s : State) : Unmoved s (unlockEntry e s) := by
  refine ⟨rfl, rfl, fun k hl => ?_, fun b hb => ⟨b, hb, rfl⟩, fun _ => Iff.rfl, id⟩
  rw [unlockEntry_retained_entries, PerElement.get_set] at hl
  split_ifs at hl with hk
  exact hl

/-- The trials count down, RUNNING and SUSPENDED as they were (R137). -/
theorem tickTrial_parts (x : Trial) : (tickTrial x).element = x.element ∧ (tickTrial x).state = x.state := by
  obtain ⟨e, st, a, b, c⟩ := x
  cases st <;> exact ⟨rfl, rfl⟩

theorem unmoved_tickTimers (s : State) : Unmoved s (tickTimers s) := by
  have same : Trial.element ∘ tickTrial = Trial.element := funext fun x => (tickTrial_parts x).1
  refine ⟨rfl, rfl, fun _ => id, fun b hb => ?_, fun e => ?_, fun hs n hn => ?_⟩
  · obtain ⟨a, ha, rfl⟩ := Option.map_eq_some_iff.mp hb
    exact ⟨a, ha, rfl⟩
  · simp only [inFlight_iff, tickTimers, Option.map_map, same]
  · obtain ⟨m, hm, rfl⟩ := Option.map_eq_some_iff.mp hn
    obtain ⟨hrunning, x, hx, hsuspended, hgroups⟩ := hs m hm
    refine ⟨(tickTrial_parts m).2.trans hrunning, tickTrial x, Option.map_eq_some_iff.mpr ⟨x, hx, rfl⟩,
      (tickTrial_parts x).2.trans hsuspended, ?_⟩
    rwa [(tickTrial_parts x).1, (tickTrial_parts m).1]

/-- A claim does no more to the promise than its setting of the health (R5). -/
theorem unmoved_changeHealth (e : Element) (h : Health) (c : Option FaultClass) (s : State) :
    Unmoved (setHealth e h s) (changeHealth e h c s) := by
  have hrecovery := changeHealth_recovery e h c s
  refine ⟨by simp, by simp, fun k hl => by simpa using hl, fun b hb => ?_, fun k => ?_, ?_⟩
  · rw [hrecovery] at hb
    dsimp only at hb
    split_ifs at hb
    exact ⟨b, hb, rfl⟩
  · have hprimary : (changeHealth e h c s).recovery.primary.map Trial.element =
        s.recovery.primary.map Trial.element := by
      rw [hrecovery]
      dsimp only
      split_ifs
      · rfl
      · cases s.recovery.primary <;> rfl
    rw [inFlight_iff, inFlight_iff, hprimary, hrecovery]
    rfl
  · refine slotsAgree_of_evaluated (v := (changeHealth e h c s).unit.envelope) ?_ (by rw [hrecovery]; rfl)
    rw [hrecovery]
    exact ite_eq_or_eq _ _ _

theorem Unmoved.holds {s t : State} (h : Unmoved s t) (hs : RecoveryHolds s) : RecoveryHolds t where
  early hp := by
    rw [h.part] at hp
    obtain ⟨hballot, htrial⟩ := hs.early hp
    refine ⟨Option.eq_none_iff_forall_not_mem.mpr fun b hb => ?_, by rwa [h.health]⟩
    obtain ⟨a, ha, -⟩ := h.ballot b hb
    rw [hballot] at ha
    cases ha
  slots := h.slots hs.slots
  flight e := by rw [h.health, h.flight e, hs.flight e]
  named b hb := by
    obtain ⟨a, ha, hab⟩ := h.ballot b hb
    rw [h.health, ← hab]
    exact hs.named a ha
  locked hp e hl := by
    rw [h.health]
    exact hs.locked (h.part.symm.trans hp) e (h.locked e hl)

/-! ### One element's health, trial and lock -/

/-- No entry but an element's is locked from one state to another, and in RUN that one for LOCKED_OUT alone (R151,
R152). -/
structure LocksOnly (e : Element) (h : Health) (s t : State) : Prop where
  others : ∀ k, k ≠ e → (t.retained.entries.get k).locked = true → (s.retained.entries.get k).locked = true
  own : s.osc.part = .run → (t.retained.entries.get e).locked = true → h = .lockedOut

theorem LocksOnly.lockedOut {e : Element} {s t : State} (h : t.retained = s.retained) : LocksOnly e .lockedOut s t :=
  ⟨fun _ _ hl => by rwa [← h], fun _ _ => rfl⟩

section
variable {s t : State} (hs : RecoveryHolds s)
include hs

/-- A change of one element's health, of its trial and of its lock is a matter of that element alone, and of
the slots. -/
theorem RecoveryHolds.of_change {e : Element} {h : Health} (part : t.osc.part = s.osc.part)
    (health : t.map.health = s.map.health.set e h)
    (late : h = .trial → ¬(s.osc.part = .config ∨ s.osc.part = .starting)) (slots : SlotsAgree t.recovery)
    (own : h = .trial ↔ InFlight t.recovery e)
    (others : ∀ k, k ≠ e → (InFlight t.recovery k ↔ InFlight s.recovery k))
    (ballot : ∀ b, t.recovery.ballot = some b → s.recovery.ballot = some b ∧ b.element ≠ e)
    (locks : LocksOnly e h s t) : RecoveryHolds t where
  early hp := by
    rw [part] at hp
    obtain ⟨hballot, htrial⟩ := hs.early hp
    refine ⟨Option.eq_none_iff_forall_not_mem.mpr fun b hb => ?_, fun k => ?_⟩
    · have := (ballot b hb).1
      rw [hballot] at this
      cases this
    · rw [health, PerElement.get_set]
      split_ifs
      · exact fun ht => late ht hp
      · exact htrial k
  slots := slots
  flight k := by
    rw [health, PerElement.get_set]
    split_ifs with hk
    · rw [hk, own]
    · rw [others k hk, hs.flight]
  named b hb := by
    obtain ⟨hopen, hne⟩ := ballot b hb
    rw [health, PerElement.get_set, if_neg hne]
    exact hs.named b hopen
  locked hp k hl := by
    rw [part] at hp
    rw [health, PerElement.get_set]
    split_ifs with hk
    · exact locks.own hp (hk ▸ hl)
    · exact hs.locked hp k (locks.others k hk hl)

/-- An element that is not in TRIAL takes another health than TRIAL. -/
theorem RecoveryHolds.of_untried {e : Element} {h : Health} (untried : s.map.health.get e ≠ .trial) (ne : h ≠ .trial)
    (part : t.osc.part = s.osc.part) (health : t.map.health = s.map.health.set e h)
    (primary : t.recovery.primary = s.recovery.primary) (nested : t.recovery.nested = s.recovery.nested)
    (ballot : ∀ b, t.recovery.ballot = some b → s.recovery.ballot = some b ∧ b.element ≠ e)
    (locks : LocksOnly e h s t) : RecoveryHolds t := by
  have same : ∀ k, InFlight t.recovery k ↔ InFlight s.recovery k := fun k => by
    rw [inFlight_iff, inFlight_iff, primary, nested]
  refine hs.of_change part health (fun ht => absurd ht ne) (slotsAgree_of_eq primary nested hs.slots) ?_
    (fun k _ => same k) ballot locks
  rw [same e, ← hs.flight e]
  exact ⟨fun ht => absurd ht ne, fun ht => absurd ht untried⟩

/-- An element's trial ends: its slot is emptied, and the element takes another health than TRIAL (R143). -/
theorem RecoveryHolds.of_ended {slot : TrialSlot} {e : Element} {h : Health} (held : slotOf s.recovery e = some slot)
    (trial : s.map.health.get e = .trial) (ne : h ≠ .trial) (part : t.osc.part = s.osc.part)
    (health : t.map.health = s.map.health.set e h) (primary : t.recovery.primary = remainingTrial slot s.recovery)
    (nested : t.recovery.nested = none) (ballot : t.recovery.ballot = s.recovery.ballot)
    (locks : LocksOnly e h s t) : RecoveryHolds t := by
  have remains : ∀ k, InFlight t.recovery k ↔ InFlight s.recovery k ∧ k ≠ e := fun k => by
    rw [← inFlight_remaining hs.slots held k]
    simp [InFlight, primary, nested]
  refine hs.of_change part health (fun ht => absurd ht ne) (slotsAgree_of_nested_none nested)
    ⟨fun ht => absurd ht ne, fun hf => absurd rfl ((remains e).mp hf).2⟩
    (fun k hk => (remains k).trans (and_iff_left hk)) (fun b hb => ?_) locks
  rw [ballot] at hb
  refine ⟨hb, fun he => ?_⟩
  have := hs.named b hb
  rw [he, trial] at this
  rcases this with h | h <;> cases h

/-- In RUN an element that is not LOCKED_OUT is not locked (R152). -/
theorem RecoveryHolds.not_locked {e : Element} (h : s.map.health.get e ≠ .lockedOut) (hp : s.osc.part = .run) :
    ¬(s.retained.entries.get e).locked = true := fun hl => h (hs.locked hp e hl)

/-- With the entries as they were, an element that is not LOCKED_OUT may take any health. -/
theorem RecoveryHolds.locksOnly {e : Element} (h : s.map.health.get e ≠ .lockedOut) (retained : t.retained = s.retained)
    (after : Health) : LocksOnly e after s t := by
  refine ⟨fun _ _ hl => by rwa [← retained], fun hp hl => absurd ?_ (hs.not_locked h hp)⟩
  rwa [← retained]

/-- An element in TRIAL has its trial in a slot. -/
theorem RecoveryHolds.slot_of_trial {e : Element} (h : s.map.health.get e = .trial) :
    ∃ slot, slotOf s.recovery e = some slot := by
  obtain ⟨slot, hslot, -⟩ := slotOf_of_inFlight ((hs.flight e).mp h)
  exact ⟨slot, hslot⟩

theorem RecoveryHolds.of_recovery (part : t.osc.part = s.osc.part) (health : t.map.health = s.map.health)
    (recovery : t.recovery = s.recovery) (retained : t.retained = s.retained) : RecoveryHolds t :=
  (Unmoved.of_eq part health recovery retained).holds hs

end

end Sys2Proof.Machine
end

section
/-! What reports, ballots and trials keep of the trials, the open ballot and the lockouts (O52). -/

namespace Sys2Proof.Machine

/-! ### The slots of the trials -/

/-- The NESTED slot admits an element of another group than the SUSPENDED trial in PRIMARY (R132, Table 7.5). -/
theorem slotFor_nested_group {r : RecoveryUnit} {e : Element} (h : slotFor r e = .ok .nested) :
    ∃ y, r.primary = some y ∧ y.state = .suspended ∧ elementGroup y.element ≠ elementGroup e := by
  obtain ⟨y, hy, hsuspended, hnested⟩ := slotFor_nested h
  refine ⟨y, hy, hsuspended, fun hg => ?_⟩
  simp [slotFor, hy, hnested, hsuspended, hg] at h

theorem newTrial_element (slot : TrialSlot) (e : Element) (s : State) : (newTrial slot e s).element = e := rfl

/-- The slots with a new trial in the one that admits its element agree with R132, and hold the trials that they held
and the new one. -/
theorem trialPlaced_slots {slot : TrialSlot} {e : Element} {s : State} (h : slotFor s.recovery e = .ok slot) :
    SlotsAgree (trialPlaced slot e s).recovery ∧
    ∀ k, InFlight (trialPlaced slot e s).recovery k ↔ k = e ∨ InFlight s.recovery k := by
  cases slot with
  | primary =>
    obtain ⟨hprimary, hnested⟩ := slotFor_primary h
    have hp : (trialPlaced .primary e s).recovery.primary = some (newTrial .primary e s) := rfl
    have hn : (trialPlaced .primary e s).recovery.nested = none := hnested
    refine ⟨slotsAgree_of_nested_none hn, fun k => ?_⟩
    simp [inFlight_iff, hp, hn, hprimary, hnested, newTrial_element, eq_comm]
  | nested =>
    obtain ⟨y, hy, hsuspended, hgroup⟩ := slotFor_nested_group h
    obtain ⟨-, -, -, hnested⟩ := slotFor_nested h
    have hp : (trialPlaced .nested e s).recovery.primary = some y := hy
    have hn : (trialPlaced .nested e s).recovery.nested = some (newTrial .nested e s) := rfl
    refine ⟨fun n hn' => ?_, fun k => ?_⟩
    · obtain rfl := Option.some.inj (hn.symm.trans hn')
      exact ⟨rfl, y, hp, hsuspended, hgroup⟩
    · simp [inFlight_iff, hp, hn, hy, hnested, newTrial_element, eq_comm, or_comm]

/-- The slot of an element is the one that holds its trial: the two slots hold trials of different groups (R132). -/
theorem slotOf_of_trialIn {r : RecoveryUnit} (h : SlotsAgree r) {slot : TrialSlot} {x : Trial}
    (held : trialIn r slot = some x) : slotOf r x.element = some slot := by
  cases slot with
  | primary =>
    have hx : r.primary = some x := held
    simp [slotOf, hx]
  | nested =>
    have hx : r.nested = some x := held
    obtain ⟨-, y, hy, -, hgroups⟩ := h x hx
    have hne : y.element ≠ x.element := fun he => hgroups (congrArg elementGroup he)
    simp [slotOf, hx, hy, hne]

/-! ### Reports -/

/-- A confirmation locks no other entry than its element's, and that one for a retained class alone (R151). -/
theorem entriesLockedBy_locked (e : Element) (c : FaultClass) (s : State) (k : Element) :
    ((entriesLockedBy e c s).get k).locked = true ↔
      (s.retained.entries.get k).locked = true ∨ (k = e ∧ (classParams s.osc.image c).retained = true) := by
  unfold entriesLockedBy
  by_cases hk : k = e
  · subst hk
    cases hr : (classParams s.osc.image c).retained <;> cases hl : (s.retained.entries.get k).locked <;> simp [hl]
  · split <;> simp [PerElement.get_set, hk]

/-- A confirmation locks its element's entry alone, and that one for a health that a retained class and a lock bring. -/
theorem RecoveryHolds.locksOnly_entriesLockedBy {s t : State} (hs : RecoveryHolds s) {e : Element} {c : FaultClass}
    {h : Health} (entries : t.retained.entries = entriesLockedBy e c s)
    (lockedOut : s.map.health.get e = .lockedOut ∨ (classParams s.osc.image c).retained = true → h = .lockedOut) :
    LocksOnly e h s t := by
  refine ⟨fun k hk hl => ?_, fun hrun hl => lockedOut ?_⟩ <;> rw [entries, entriesLockedBy_locked] at hl
  · exact hl.resolve_right fun hc => hk hc.1
  · exact hl.imp (hs.locked hrun e) And.right

/-- A retained class locks out an element that is not in TRIAL, and LOCKED_OUT stays (R7, R8). -/
theorem confirmedHealth_of_locks {h : Health} (ht : h ≠ .trial) (a : FaultAction) {retained : Bool}
    (hl : h = .lockedOut ∨ retained = true) : confirmedHealth h a retained = .lockedOut := by
  rcases hl with rfl | rfl
  · rfl
  · cases h <;> simp_all [confirmedHealth]

section
variable {s : State} (hs : RecoveryHolds s)
include hs

/-- A confirmation on an element that is not in TRIAL: the ballot on it closes, and a retained class locks it out. -/
theorem RecoveryHolds.confirmRecord_untried {e : Element} (ht : s.map.health.get e ≠ .trial) (c : FaultClass) :
    RecoveryHolds (confirmRecord e c s) := by
  have ne := (confirmedHealth_fits ht (classParams s.osc.image c).action (classParams s.osc.image c).retained).1
  rw [confirmRecord_eq_changeHealth ht, voidIfNamed_recordConfirmed_eq]
  refine (unmoved_changeHealth _ _ _ _).holds
    (hs.of_untried ht ne rfl rfl rfl rfl (fun b hb => ?_)
      (hs.locksOnly_entriesLockedBy rfl (confirmedHealth_of_locks ht _)))
  simp only [setHealth_recovery] at hb
  split_ifs at hb with hany
  exact ⟨hb, fun he => hany (by rw [hb]; simp [he])⟩

/-- A failed trial: its slot is emptied, and its element is out (R10, R141). The record that fails it may have locked
the entry of its element first, where that locks the element out. -/
theorem RecoveryHolds.failTrial {u : State} {e : Element} {c : FaultClass} {recorded : Bool}
    (ht : s.map.health.get e = .trial) (part : u.osc.part = s.osc.part) (health : u.map.health = s.map.health)
    (recovery : u.recovery = s.recovery) (locks : LocksOnly e (healthAfterFailure e c recorded u) s u) :
    RecoveryHolds (failTrial e c recorded u) := by
  obtain ⟨slot, hslot⟩ := hs.slot_of_trial ht
  have hslot' : slotOf u.recovery e = some slot := by rw [recovery, hslot]
  rw [failTrial_eq hslot']
  refine (unmoved_evaluatePrimary _).holds ((unmoved_changeHealth _ _ _ _).holds ?_)
  refine hs.of_ended hslot ht (healthAfterFailure_ne_trial e c recorded u) ?_ ?_ ?_ ?_ ?_ ?_
  · simpa [trialFailed] using part
  · simp [trialFailed, health]
  · simp [trialFailed, recovery]
  · simp [trialFailed]
  · simp [trialFailed, recovery]
  · exact ⟨by simpa [trialFailed] using locks.others, by simpa [trialFailed] using locks.own⟩

theorem RecoveryHolds.confirmRecord (e : Element) (c : FaultClass) : RecoveryHolds (confirmRecord e c s) := by
  by_cases ht : s.map.health.get e = .trial
  · rw [confirmRecord_of_trial ht]
    refine hs.failTrial ht (by simp) (by simp) (by simp) (hs.locksOnly_entriesLockedBy (c := c) (by simp) fun h => ?_)
    have hretained := h.resolve_left (by rw [ht]; decide)
    simp [healthAfterFailure, failedHealth, hretained]
  · exact hs.confirmRecord_untried ht c

theorem RecoveryHolds.leaveUnrecorded (r : FaultReport) : RecoveryHolds (leaveUnrecorded r s) := by
  have hover := (unmoved_overflowed s).holds hs
  rw [leaveUnrecorded_eq]
  split_ifs with ht
  · have ht' : (overflowed s).map.health.get r.element = .trial := by rw [(overflowed_parts s).1, ht]
    exact hover.failTrial ht' rfl rfl rfl (hover.locksOnly (by rw [ht']; decide) rfl _)
  · exact hover

theorem RecoveryHolds.handReport (r : FaultReport) : RecoveryHolds (handReport r s) := by
  have hscored : RecoveryHolds (scored r s) := hs.of_recovery rfl rfl rfl rfl
  rcases handReport_cases r s with h | ⟨-, -, h | ⟨-, h⟩⟩ | ⟨-, -, h⟩ <;> rw [h]
  · exact hs
  · exact hscored
  · exact hscored.confirmRecord _ _
  · exact hs.leaveUnrecorded r

theorem RecoveryHolds.startVoteReports : RecoveryHolds (startVoteReports s) :=
  foldl_keeps (P := RecoveryHolds) (f := fun s p => Machine.handReport (startVoteReport p) s)
    (fun _ _ hu => hu.handReport _) _ hs

/-! ### Ballots and trials -/

/-- An open ballot shows that the part is past STARTING (R114). -/
theorem RecoveryHolds.late_of_ballot {b : Ballot} (h : s.recovery.ballot = some b) :
    ¬(s.osc.part = .config ∨ s.osc.part = .starting) := by
  intro hp
  rw [(hs.early hp).1] at h
  cases h

/-- A ballot opens or is answered past STARTING, on an ISOLATED or DEGRADED element (R117, R121). -/
theorem RecoveryHolds.setBallot (late : ¬(s.osc.part = .config ∨ s.osc.part = .starting)) {b : Ballot}
    (named : s.map.health.get b.element = .isolated ∨ s.map.health.get b.element = .degraded) :
    RecoveryHolds (setBallot (some b) s) where
  early hp := absurd hp late
  slots := hs.slots
  flight := hs.flight
  named x hx := by
    obtain rfl := Option.some.inj hx
    exact named
  locked := hs.locked

/-- A trial starts in the slot that admits its element, past STARTING, once the ballot on it has closed (R123, R135). -/
theorem RecoveryHolds.startTrial (late : ¬(s.osc.part = .config ∨ s.osc.part = .starting)) {slot : TrialSlot}
    {e : Element} (admitted : slotFor s.recovery e = .ok slot) (isClosed : s.recovery.ballot = none)
    (named : s.map.health.get e = .isolated ∨ s.map.health.get e = .degraded) :
    RecoveryHolds (startTrial slot e s) := by
  obtain ⟨hslots, hflight⟩ := trialPlaced_slots admitted
  rw [startTrial_eq named]
  refine (unmoved_changeHealth _ _ _ _).holds ?_
  refine hs.of_change (h := .trial) (e := e) (by simp) (by simp) (fun _ => late) hslots
    ⟨fun _ => (hflight e).mpr (.inl rfl), fun _ => rfl⟩ (fun k hk => (hflight k).trans (or_iff_right hk))
    (fun b hb => ?_) (hs.locksOnly (by rcases named with h | h <;> rw [h] <;> decide) (by simp) _)
  rw [setHealth_recovery, trialPlaced_ballot, isClosed] at hb
  cases hb

/-- A trial that a slot holds passes (R140). -/
theorem RecoveryHolds.passTrial {slot : TrialSlot} {x : Trial} (held : trialIn s.recovery slot = some x) :
    RecoveryHolds (passTrial slot x s) := by
  have ht : s.map.health.get x.element = .trial := (hs.flight _).mpr (inFlight_of_trialIn held)
  rw [passTrial_eq ht]
  refine (unmoved_evaluatePrimary _).holds ((unmoved_changeHealth _ _ _ _).holds ?_)
  exact hs.of_ended (h := .inService) (slotOf_of_trialIn hs.slots held) ht (by decide) (by simp) (by simp) (by simp)
    (by simp) (by simp) (hs.locksOnly (by rw [ht]; decide) (by simp) _)

/-- A ballot that passes closes, and its trial starts in the slot that admits its element, if one does (R123). -/
theorem RecoveryHolds.passBallot {b : Ballot} (h : s.recovery.ballot = some b) :
    RecoveryHolds (passBallot b s).state := by
  unfold Machine.passBallot
  split
  case h_1 slot hslot =>
    have closed := unmoved_closeBallot none s
    refine (closed.holds hs).startTrial ?_ ?_ (closeBallot_ballot none s) ?_
    · rw [closed.part]
      exact hs.late_of_ballot h
    · simpa [slotFor] using hslot
    · rw [closed.health]
      exact hs.named b h
  case h_2 => exact (unmoved_closeBallot (some (.voided .noSlot)) s).holds hs

end

end Sys2Proof.Machine
end

section
/-! Every command keeps the promise about the trials, the open ballot and the lockouts (O52). -/

namespace Sys2Proof.Machine

/-! ### The part states -/

section
variable {s : State} (hs : RecoveryHolds s)
include hs

/-- A lockout of RUN entry is taken in STARTING, where there is neither ballot nor trial (R13, R152). -/
theorem RecoveryHolds.runEntryLockout (hp : s.osc.part = .starting) (e : Element) :
    RecoveryHolds (runEntryLockout e s) := by
  obtain ⟨hballot, htrial⟩ := hs.early (.inr hp)
  rw [runEntryLockout_eq]
  split
  · refine (unmoved_changeHealth _ _ _ _).holds (hs.of_untried (htrial e) (h := .lockedOut) (by decide) rfl rfl rfl rfl
      (fun b hb => ?_) (.lockedOut rfl))
    rw [setHealth_recovery, hballot] at hb
    cases hb
  · exact hs

theorem RecoveryHolds.applyLockouts (hp : s.osc.part = .starting) : RecoveryHolds (applyLockouts s) := by
  have both : RecoveryHolds (Machine.applyLockouts s) ∧ (Machine.applyLockouts s).osc.part = .starting :=
    foldl_keeps (P := fun u => RecoveryHolds u ∧ u.osc.part = .starting)
      (f := fun s e => Machine.runEntryLockout e s)
      (fun e u hu => ⟨hu.1.runEntryLockout hu.2 e, by rw [runEntryLockout_osc, hu.2]⟩) allElements ⟨hs, hp⟩
  exact both.1

/-- RUN is entered once every locked element is LOCKED_OUT (R152, R171). -/
theorem RecoveryHolds.runEntry (hp : s.osc.part = .starting) : RecoveryHolds (runEntry s) := by
  have lockouts := hs.applyLockouts hp
  have entered : RecoveryHolds (enterRun (Machine.applyLockouts s)) := by
    refine ⟨by simp, lockouts.slots, lockouts.flight, lockouts.named, fun _ e hl => ?_⟩
    have hl : (s.retained.entries.get e).locked = true := by simpa using hl
    have htrial := (hs.early (.inr hp)).2 e
    exact (lockouts_health allElements e s).trans (if_pos ⟨mem_allElements e, hl, htrial⟩)
  have first := (unmoved_firstEnvelope (enterRun (Machine.applyLockouts s))).trans (unmoved_adoptionRound _)
  exact (unmoved_foldl (fun p u => unmoved_supervise p u) allPorts _).holds (first.holds entered)

theorem RecoveryHolds.enterStarting (hp : s.osc.part = .config) (p : Port) : RecoveryHolds (enterStarting p s) :=
  ⟨fun _ => hs.early (.inl hp), hs.slots, hs.flight, hs.named, nofun⟩

/-- FAILSAFE keeps the trials and the ballot as they stand (R111). -/
theorem RecoveryHolds.requestFailsafe (cause : Cause) : RecoveryHolds (requestFailsafe cause s) := by
  have hp := requestFailsafe_part cause s
  have hrecovery : (Machine.requestFailsafe cause s).recovery = s.recovery := by simp
  have hmap : (Machine.requestFailsafe cause s).map = s.map := by simp
  refine ⟨fun h => ?_, by rw [hrecovery]; exact hs.slots, fun e => by rw [hrecovery, hmap]; exact hs.flight e,
    fun b hb => ?_, fun h => ?_⟩
  · rw [hp] at h
    rcases h with h | h <;> cases h
  · rw [hmap]
    exact hs.named b (hrecovery ▸ hb)
  · rw [hp] at h
    cases h

/-! ### Requests -/

theorem RecoveryHolds.report (p : Port) (e c : Byte) (detail : Option Half) :
    RecoveryHolds (report p e c detail s).state := by
  rcases report_state p e c detail s with h | ⟨e', c', h⟩ <;> rw [h]
  · exact hs
  · exact hs.handReport _

theorem RecoveryHolds.setFloor (p : Port) (profile : Byte) : RecoveryHolds (setFloor p profile s).state := by
  rcases setFloor_state p profile s with h | ⟨f, h⟩ <;> rw [h]
  · exact hs
  · have floored : Unmoved s (setFloorOf p f s) := .of_eq rfl rfl rfl rfl
    exact (floored.trans (unmoved_recompute _)).holds hs

theorem RecoveryHolds.adopt (p : Port) (generation : Half) : RecoveryHolds (adopt p generation s).state := by
  rcases adopt_state p generation s with h | ⟨d, v, h⟩ <;> rw [h]
  · exact hs
  · exact hs.of_recovery rfl rfl rfl rfl

theorem RecoveryHolds.checkIn (p : Port) : RecoveryHolds (checkIn p s).state := by
  unfold Machine.checkIn
  split_ifs
  · exact hs
  · exact hs.of_recovery rfl rfl rfl rfl
  · exact hs

theorem RecoveryHolds.openBallot (p : Port) {e : Element}
    (late : ¬(s.osc.part = .config ∨ s.osc.part = .starting))
    (named : s.map.health.get e = .isolated ∨ s.map.health.get e = .degraded) :
    RecoveryHolds (openBallot p e s).state := by
  have opened : RecoveryHolds (Machine.setBallot (some (newBallot p e s)) s) := hs.setBallot late named
  unfold Machine.openBallot
  dsimp only
  split
  · exact opened.passBallot rfl
  · exact (unmoved_postBallot _ e _).holds opened

theorem RecoveryHolds.release (p : Port) (element : Byte) : RecoveryHolds (release p element s).state := by
  rcases release_opens p element s with h | ⟨e, hrun, named, h⟩ <;> rw [h]
  · exact hs
  · exact hs.openBallot p (by simp [hrun]) named

theorem RecoveryHolds.answerBallot (p : Port) {b : Ballot} (h : s.recovery.ballot = some b) :
    RecoveryHolds (answerBallot p b s).state := by
  unfold Machine.answerBallot
  split
  · exact hs
  · have answered : RecoveryHolds (Machine.setBallot (some { b with answered := b.answered.set p true }) s) :=
      hs.setBallot (hs.late_of_ballot h) (hs.named b h)
    have withdrawn : RecoveryHolds (onNotices p (fun v => { v with ballot := none })
        (Machine.setBallot (some { b with answered := b.answered.set p true }) s)) :=
      answered.of_recovery rfl rfl rfl rfl
    dsimp only
    split
    · exact withdrawn.passBallot rfl
    · exact withdrawn

theorem RecoveryHolds.consent (p : Port) (element : Byte) : RecoveryHolds (consent p element s).state := by
  unfold Machine.consent
  split
  · exact hs
  · exact hs.answerBallot p (askedBallot_ok ‹_›).1

theorem RecoveryHolds.veto (p : Port) (element : Byte) : RecoveryHolds (veto p element s).state := by
  unfold Machine.veto
  split
  · exact hs
  · exact (unmoved_closeBallot (some .vetoed) s).holds hs

theorem RecoveryHolds.acceptStart (p : Port) (hp : s.osc.part = .config ∨ s.osc.part = .starting) :
    RecoveryHolds (acceptStart p s) := by
  have joined : Unmoved s (Machine.supervise p (joinStarted p s)) :=
    Unmoved.trans (t := joinStarted p s) (.of_eq rfl rfl rfl rfl) (unmoved_supervise p _)
  unfold Machine.acceptStart
  dsimp only
  split_ifs with hconfig
  · exact (unmoved_supervise p _).holds (hs.enterStarting hconfig p)
  · exact hs
  · exact (joined.holds hs).runEntry (joined.part.trans (hp.resolve_left hconfig))
  · exact joined.holds hs

theorem RecoveryHolds.start (p : Port) (named : Half) : RecoveryHolds (start p named s).state := by
  unfold Machine.start
  split_ifs with hfailsafe hrun
  · exact hs
  · exact hs
  · exact hs
  · refine hs.acceptStart p ?_
    cases hp : s.osc.part <;> simp_all

theorem RecoveryHolds.acceptWrite (k : Sect) (n : Nat) (entry : List Byte) :
    RecoveryHolds (acceptWrite k n entry s) := by
  have written : RecoveryHolds { s with osc.image := putEntry s.osc.image k n entry } := hs.of_recovery rfl rfl rfl rfl
  unfold Machine.acceptWrite afterWrite
  split
  · split
    · exact written.of_recovery rfl rfl rfl rfl
    · exact written
  · exact (unmoved_recompute _).holds written
  · exact (unmoved_recompute _).holds written
  all_goals exact written

theorem RecoveryHolds.writeConfig (p : Port) (k n : Byte) (entry : List Byte) :
    RecoveryHolds (writeConfig p k n entry s).state := by
  rcases writeConfig_state p k n entry s with h | ⟨_, _, -, -, h⟩ <;> rw [h]
  · exact hs
  · exact hs.acceptWrite _ _ _

theorem RecoveryHolds.serviceArm (p : Port) : RecoveryHolds (serviceArm p s).state := by
  rcases serviceArm_state p s with h | h <;> rw [h]
  · exact hs
  · exact hs.of_recovery rfl rfl rfl rfl

theorem RecoveryHolds.serviceClear (p : Port) (which : Byte) : RecoveryHolds (serviceClear p which s).state := by
  rcases serviceClear_state p which s with h | ⟨es, h⟩ <;> rw [h]
  · exact hs
  · have disarmed : RecoveryHolds (setArm false s) := hs.of_recovery rfl rfl rfl rfl
    exact (unmoved_foldl unmoved_unlockEntry es _).holds disarmed

/-! ### The timers and the samples -/

theorem RecoveryHolds.decayExpiry (e : Element) (c : FaultClass) : RecoveryHolds (decayExpiry e c s) := by
  unfold Machine.decayExpiry
  split
  · exact hs
  · split
    · unfold takeDecay
      dsimp only
      split <;> exact hs.of_recovery rfl rfl rfl rfl
    · exact hs

theorem RecoveryHolds.checkInDeadlineExpiry (p : Port) : RecoveryHolds (checkInDeadlineExpiry p s) := by
  unfold Machine.checkInDeadlineExpiry
  split
  · exact (hs.of_recovery (t := setContact p _ s) rfl rfl rfl rfl).handReport _
  · exact hs

theorem RecoveryHolds.dwellExpiry : RecoveryHolds (dwellExpiry s) := by
  unfold Machine.dwellExpiry
  split
  · exact (unmoved_changeEnvelope _ _).holds (hs.of_recovery (t := setDwell none s) rfl rfl rfl rfl)
  · exact hs

theorem RecoveryHolds.restartAdoption (d : DrivePort) : RecoveryHolds (restartAdoption d s) := by
  unfold Machine.restartAdoption
  dsimp only
  split
  · exact hs.of_recovery rfl rfl rfl rfl
  · exact hs

theorem RecoveryHolds.adoptionDeadlineExpiry (d : DrivePort) : RecoveryHolds (adoptionDeadlineExpiry d s) := by
  unfold Machine.adoptionDeadlineExpiry
  split
  · exact ((hs.of_recovery (t := setAdoption d _ s) rfl rfl rfl rfl).handReport _).restartAdoption d
  · exact hs

theorem RecoveryHolds.ballotWindowExpiry : RecoveryHolds (ballotWindowExpiry s) := by
  unfold Machine.ballotWindowExpiry
  split
  · exact hs
  · split
    · exact (unmoved_closeBallot _ s).holds hs
    · exact hs

theorem RecoveryHolds.trialExpiry (slot : TrialSlot) : RecoveryHolds (trialExpiry slot s) := by
  unfold Machine.trialExpiry
  split
  · exact hs
  · split
    · exact hs.passTrial ‹_›
    · exact hs

theorem RecoveryHolds.startWindowExpiry : RecoveryHolds (startWindowExpiry s) := by
  unfold Machine.startWindowExpiry
  split_ifs with hdue
  · obtain ⟨hp, -⟩ := Bool.and_eq_true_iff.mp hdue
    exact hs.startVoteReports.runEntry (by simpa using hp)
  · exact hs

theorem RecoveryHolds.integrityCheckExpiry : RecoveryHolds (integrityCheckExpiry s) := by
  have reloaded : RecoveryHolds { s with osc.integrity := some integrityPeriod } := hs.of_recovery rfl rfl rfl rfl
  unfold Machine.integrityCheckExpiry checkIntegrity
  split_ifs
  · exact reloaded
  · exact reloaded.requestFailsafe _
  · exact hs

theorem RecoveryHolds.sampleLevel (l : FaultLine) (high : Bool) : RecoveryHolds (sampleLevel l high s) := by
  unfold Machine.sampleLevel
  dsimp only
  split
  · exact (hs.of_recovery (t := setLine l _ s) rfl rfl rfl rfl).handReport _
  · exact hs.of_recovery rfl rfl rfl rfl

theorem RecoveryHolds.sampleEdge (l : FaultLine) (high : Bool) : RecoveryHolds (sampleEdge l high s) := by
  unfold Machine.sampleEdge
  dsimp only
  split
  · exact hs.of_recovery rfl rfl rfl rfl
  · split
    · exact (hs.of_recovery (t := setLine l _ s) rfl rfl rfl rfl).handReport _
    · exact hs.of_recovery rfl rfl rfl rfl

theorem RecoveryHolds.sampleLine (l : FaultLine) (high : Bool) : RecoveryHolds (sampleLine l high s) := by
  unfold Machine.sampleLine
  split
  · split
    · exact hs.sampleLevel l high
    · exact hs.sampleEdge l high
  · exact hs

/-- An event that a line's sample would bring about is that sample, or does not take place. -/
theorem RecoveryHolds.sampleLine_or_idle (taken : Prop) [Decidable taken] (l : FaultLine) (high : Bool) :
    RecoveryHolds (if taken then Machine.sampleLine l high s else s) := by
  split
  · exact hs.sampleLine l high
  · exact hs

theorem RecoveryHolds.sampleReadback (first : DrivePort) (v : Readback) : RecoveryHolds (sampleReadback first v s) := by
  have counted : RecoveryHolds (countMismatches v s) := hs.of_recovery rfl rfl rfl rfl
  rcases sampleReadback_cases first v s with h | ⟨d, -, h⟩ <;> rw [h]
  · exact counted
  · exact counted.requestFailsafe _

theorem RecoveryHolds.readbackMismatch (m : ThirdMismatch) : RecoveryHolds (readbackMismatch m s) := by
  unfold Machine.readbackMismatch
  split
  · exact hs.sampleReadback _ _
  · exact hs

theorem RecoveryHolds.tick : RecoveryHolds (tick s) := by
  have counted : RecoveryHolds (tickUptime s) := hs.of_recovery rfl rfl rfl rfl
  unfold Machine.tick
  split
  · exact counted
  · exact (unmoved_tickTimers _).holds counted

theorem RecoveryHolds.corruptImage (n : Nat) (b : Byte) : RecoveryHolds (corruptImage n b s) := by
  unfold Machine.corruptImage
  split
  · exact hs.of_recovery rfl rfl rfl rfl
  · exact hs

end

/-! ### Every command -/

/-- A reset leaves CONFIG without ballot, trial or element in TRIAL (R42, R130, R147). -/
theorem recoveryHolds_resetBlocks (image : List Byte) (p : Port) (m : RetainedMap) (s : State) :
    RecoveryHolds (resetBlocks image p m s) := by
  have untried : ∀ e, State.reset.map.health.get e ≠ .trial := fun e => by rw [reset_health e]; decide
  exact (recoveryHolds_iff _).mpr ⟨fun _ => ⟨rfl, rfl, rfl, untried⟩, reset_trialsAgree, nofun⟩

/-- The link port's own moves keep the promise (R173 to R176). -/
theorem recoveryMoves : LinkMoves fun s t => RecoveryHolds s → RecoveryHolds t where
  refl _ := id
  trans h k := k ∘ h
  port _ _ _ hs := hs.of_recovery rfl rfl rfl rfl
  disarm _ _ hs := hs.of_recovery (by simp) (by simp) (by simp) (by simp)
  report _ _ hs := hs.handReport _

theorem exec_recoveryHolds {i : Instr} {s t : State} (hs : RecoveryHolds s) (h : exec i s = .next t) :
    RecoveryHolds t := by
  have request : ∀ {p : Port} {code : Byte} {payload : List Byte} {disarms : Bool} {act : State → Taken},
      (∀ {u}, RecoveryHolds u → RecoveryHolds (act u).state) →
      RecoveryHolds (takeRequest p code payload disarms act s) :=
    fun h => recoveryMoves.takeRequest (fun _ => h) s hs
  have reads : ∀ {p : Port} {code : Byte} {payload : List Byte} {disarms : Bool} {act : State → Taken},
      (∀ u, (act u).state = u) → RecoveryHolds (takeRequest p code payload disarms act s) :=
    fun h => request fun {u} hu => by rwa [h u]
  have event : ∀ {f : State → State}, RecoveryHolds (f s) → RecoveryHolds (unlessHeld f s) :=
    fun h => recoveryMoves.unlessHeld s (fun _ => h) hs
  cases i <;> obtain rfl := Host.Outcome.next.inj h
  case readStatus p page => exact reads (readStatus_state p page)
  case readEnvelope p => exact reads fun _ => rfl
  case readElement p n => exact reads (readElement_state n)
  case readFault p n => exact reads (readFault_state n)
  case readRetained p n => exact reads (readRetained_state n)
  case readNotice p => exact request fun hu => hu.of_recovery rfl rfl rfl rfl
  case readConfig p k n => exact reads (readConfig_state k n)
  case checkIn p => exact request (·.checkIn p)
  case report p e c detail => exact request (·.report p e c detail)
  case setFloor p profile => exact request (·.setFloor p profile)
  case adopt p generation => exact request (·.adopt p generation)
  case release p element => exact request (·.release p element)
  case consent p element => exact request (·.consent p element)
  case veto p element => exact request (·.veto p element)
  case start p named => exact request (·.start p named)
  case writeConfig p k n entry => exact request (·.writeConfig p k n entry)
  case serviceArm p => exact request (·.serviceArm p)
  case serviceClear p which => exact request (·.serviceClear p which)
  case unknownRequest p code payload => exact recoveryMoves.unknownRequest p code payload s hs
  case frameDiscard p kind => exact event (recoveryMoves.frameDiscard p kind s hs)
  case gapDiscard p => exact event (recoveryMoves.gapDiscard p s hs)
  case replyComplete p => exact event (recoveryMoves.endReply p s hs)
  case powerOnReset a b => exact recoveryHolds_resetBlocks _ _ _ s
  case keyCycleReset => exact event (recoveryHolds_resetBlocks _ _ _ s)
  case resetEnd =>
    split
    · exact hs.of_recovery rfl rfl rfl rfl
    · exact hs
  case decayExpiry e c => exact event (hs.decayExpiry e c)
  case checkInDeadlineExpiry p => exact event (hs.checkInDeadlineExpiry p)
  case dwellExpiry => exact event hs.dwellExpiry
  case adoptionDeadlineExpiry d => exact event (hs.adoptionDeadlineExpiry d)
  case ballotWindowExpiry => exact event hs.ballotWindowExpiry
  case trialExpiry slot => exact event (hs.trialExpiry slot)
  case startWindowExpiry => exact event hs.startWindowExpiry
  case integrityCheckExpiry => exact event hs.integrityCheckExpiry
  case lineQualify l => exact event (hs.sampleLine_or_idle _ l _)
  case lineUnqualify l => exact event (hs.sampleLine_or_idle _ l _)
  case lineEdge l => exact event (hs.sampleLine_or_idle _ l _)
  case readbackMismatch m => exact event (hs.readbackMismatch m)
  case svcDeasserted => exact event (hs.of_recovery rfl rfl rfl rfl)
  case lineSample l high => exact event (hs.sampleLine l high)
  case readbackSample first levels => exact event (hs.sampleReadback first levels)
  case svcAsserted => exact event (hs.of_recovery rfl rfl rfl rfl)
  case millisecondTick => exact event hs.tick
  case configurationImageCorruption k b => exact event (hs.corruptImage k.val b)
  case frameStart p b => exact event (recoveryMoves.startFrame p b s hs)

/-- Settles O52: the command at the front of the queue keeps the promise, which does not speak of the queue. -/
theorem stepKeepsTheRecovery : Obligations.StepKeepsTheRecovery := by
  unfold Obligations.StepKeepsTheRecovery
  intro s t hs hstep
  rw [← recoveryHolds_iff] at hs ⊢
  unfold step at hstep
  split at hstep
  · obtain rfl := Host.Outcome.next.inj hstep
    exact hs
  · rename_i i rest _
    have front : RecoveryHolds { s with pending := rest } := hs.of_recovery rfl rfl rfl rfl
    exact exec_recoveryHolds front hstep

end Sys2Proof.Machine
end

section
/-! SERVICE_ARM and SERVICE_CLEAR with their checks, and the entries that a clear unlocks (O27). -/

namespace Sys2Proof.Machine

/-! ### The elements that a clear names -/

theorem exists_elementCode_of_le {b : Byte} (h : b.toNat ≤ 10) : ∃ e, b = BitVec.ofNat 8 (elementCode e) := by
  have hlt : b.toNat < allElements.length := Nat.lt_succ_of_le h
  have code : ∀ k (hk : k < allElements.length), elementCode allElements[k] = k := by decide
  exact ⟨allElements[b.toNat], by rw [code _ hlt, BitVec.ofNat_toNat, BitVec.setWidth_eq]⟩

theorem clearedElements_of_range {n : Byte} (h : 10 < n.toNat) (hall : n ≠ 0xFF#8) : clearedElements n = none := by
  simp [clearedElements, hall, elementOf_of_lt h]

/-- A byte in range names one element, or 0xFF all eleven (R155). -/
theorem clearedElements_of_named {n : Byte} (h : n.toNat ≤ 10 ∨ n = 0xFF#8) :
    clearedElements n =
      some (allElements.filter fun e => decide (n = 0xFF#8 ∨ n = BitVec.ofNat 8 (elementCode e))) := by
  rcases h with h | rfl
  · obtain ⟨e, rfl⟩ := exists_elementCode_of_le h
    cases e <;> rfl
  · rfl

/-! ### Entries unlocked -/

/-- The entries once those of a list of elements are unlocked; the rest of each entry stays (R155). -/
def entriesUnlocked (es : List Element) (s : State) : PerElement RetainedEntry :=
  PerElement.of fun e =>
    { s.retained.entries.get e with locked := if e ∈ es then false else (s.retained.entries.get e).locked }

theorem entriesUnlocked_unlockEntry (a : Element) (es : List Element) (s : State) :
    entriesUnlocked es (unlockEntry a s) = entriesUnlocked (a :: es) s := by
  refine congrArg PerElement.of (funext fun e => ?_)
  rw [unlockEntry_retained_entries, PerElement.get_set]
  by_cases ha : e = a
  · subst ha
    simp
  · simp [ha]

/-- Unlocking the entries of a list of elements, one after the other, changes those entries alone. -/
theorem unlockEntries_eq (es : List Element) (s : State) :
    es.foldl (fun s e => unlockEntry e s) s = { s with retained.entries := entriesUnlocked es s } := by
  induction es generalizing s with
  | nil => rfl
  | cons a es ih =>
    rw [List.foldl_cons, ih, entriesUnlocked_unlockEntry]
    rfl

theorem lockedCount_filter (q : Element → Bool) (s : State) :
    lockedCount (allElements.filter q) s =
      (allElements.filter fun e => q e && (s.retained.entries.get e).locked).length := by
  rw [lockedCount, List.countP_filter, List.countP_eq_length_filter]
  simp only [Bool.and_comm]

/-! ### The requests -/

/-- A SERVICE_ARM or SERVICE_CLEAR that its owning block answers; the link port leaves the arm to the block (R156). -/
theorem service_answered {i : Instr} {p : Port} {code : Byte} {payload b : List Byte} {st : Status} {s left : State}
    {act : State → Taken} (hL : Listens p s) (hx : exec i s = .next (takeRequest p code payload false act s))
    (hl : payload.length ≤ 24) (ha : lengthAllowed code payload.length = true)
    (h : act (framed p code payload s) = { state := left, status := st, payload := b }) :
    ∃ t, exec i s = .next t ∧ Answered p code st b left t := by
  refine ⟨_, hx, ?_⟩
  rw [takeRequest_of_listens_service hL hl ha, h]
  exact answered_sendReply _ _ _

section
variable {s : State} (hf : s.osc.part ≠ .failsafe) (ha : s.osc.arm = true) {n : Byte}
include hf ha

/-- With the arm set the configuration port is refused for its byte alone, and that ends the arm (Table 9.3, R155). -/
theorem serviceClear_range (hn : clearedElements n = none) :
    serviceClear s.osc.configPort n s = refuse .range (setArm false s) := by
  simp [serviceClear, hf, ha, hn]

theorem serviceClear_accepted {es : List Element} (hn : clearedElements n = some es) :
    serviceClear s.osc.configPort n s = acceptClear es (setArm false s) := by
  simp [serviceClear, hf, ha, hn]

end

/-- Settles O27: the checks of Tables 9.2 and 9.3 in order, then the entries that the clear's byte names. -/
theorem serviceRequestsAreCheckedAndTaken : Obligations.ServiceRequestsAreCheckedAndTaken := by
  unfold Obligations.ServiceRequestsAreCheckedAndTaken
  intro p n s hL a c arms clears
  have armed : ∀ {st left}, serviceArm p a = { state := left, status := st, payload := [] } → arms st left :=
    fun h => service_answered hL rfl (by simp) rfl h
  have cleared : ∀ {st b left}, serviceClear p n c = { state := left, status := st, payload := b } → clears st b left :=
    fun h => service_answered hL rfl (by simp) rfl h
  refine ⟨fun hp => ⟨armed ?_, cleared ?_⟩, fun hp => armed ?_, fun hp hd => armed ?_, fun hp hport hsvc => armed ?_,
    fun hf hd => cleared ?_, fun hf hport harm => cleared ?_, ?_, ?_⟩
  · exact serviceArm_of_failsafe (s := a) hp p
  · exact serviceClear_of_failsafe (s := c) hp p n
  · rcases hp with hp | hp <;> simp [serviceArm, refuse, a, hp]
  · rcases hd with hd | hd <;> simp [serviceArm, refuse, a, hp, hd]
  · simp [serviceArm, accept, setArm, a, hp, hport, hsvc]
  · simp [serviceClear, refuse, c, hf, hd]
  · simp [serviceClear, refuse, c, hf, hport, harm]
  · rintro hf rfl harm hn hall
    exact cleared (serviceClear_range (s := c) hf harm (clearedElements_of_range hn hall))
  · rintro hf rfl harm hn named
    refine cleared ((serviceClear_accepted (s := c) hf harm (clearedElements_of_named hn)).trans ?_)
    rw [acceptClear, unlockEntries_eq, lockedCount_filter]
    simp only [accept, entriesUnlocked, List.mem_filter, mem_allElements, true_and, decide_eq_true_eq]
    rfl

end Sys2Proof.Machine
end

section
/-! The image, the key-cycle counter and the lockouts change only by the commands that may change them (O60). -/

namespace Sys2Proof.Machine

/-! ### Guarded moves -/

/-- The image and the key-cycle counter stay, and no locked entry is unlocked. -/
structure Guarded (s t : State) : Prop where
  image : t.osc.image = s.osc.image
  keyCycles : t.retained.keyCycles = s.retained.keyCycles
  locked : ∀ e, (s.retained.entries.get e).locked = true → (t.retained.entries.get e).locked = true

theorem Guarded.trans {s t u : State} (h : Guarded s t) (k : Guarded t u) : Guarded s u where
  image := k.image.trans h.image
  keyCycles := k.keyCycles.trans h.keyCycles
  locked e hl := k.locked e (h.locked e hl)

theorem Guarded.of_eq {s t : State} (image : t.osc.image = s.osc.image) (retained : t.retained = s.retained) :
    Guarded s t where
  image := image
  keyCycles := by rw [retained]
  locked e hl := by rwa [retained]

theorem Guarded.refl (s : State) : Guarded s s := .of_eq rfl rfl

theorem Guarded.quiet {s t : State} (h : Quiet s t) : Guarded s t := .of_eq h.image h.retained

/-- A confirmation locks, and unlocks nothing (R151). -/
theorem recordConfirmed_guarded (e : Element) (c : FaultClass) (s : State) : Guarded s (recordConfirmed e c s) := by
  refine ⟨by simp, by simp, fun k hl => ?_⟩
  rw [recordConfirmed_retained]
  exact (entriesLockedBy_locked e c s k).mpr (.inl hl)

theorem confirmRecord_guarded (e : Element) (c : FaultClass) (s : State) : Guarded s (confirmRecord e c s) := by
  refine (recordConfirmed_guarded e c s).trans ?_
  by_cases ht : s.map.health.get e = .trial
  · rw [confirmRecord_of_trial ht]
    exact .of_eq (by simp) (by simp)
  · rw [confirmRecord_of_not_trial ht]
    exact .of_eq (by simp) (by simp)

theorem handReport_guarded (r : FaultReport) (s : State) : Guarded s (handReport r s) := by
  have marked : Guarded s (scored r s) := .of_eq rfl rfl
  rcases handReport_cases r s with h | ⟨-, -, h | ⟨-, h⟩⟩ | ⟨-, -, h⟩ <;> rw [h]
  · exact .refl s
  · exact marked
  · exact marked.trans (confirmRecord_guarded _ _ _)
  · exact .of_eq (by simp) (by simp)

theorem guardedMoves : LinkMoves Guarded where
  refl := Guarded.refl
  trans := Guarded.trans
  port p v s := .quiet (quiet_setPort p v s)
  disarm p s := .quiet (quiet_disarmFrom p s)
  report _ s := handReport_guarded _ s

/-! ### The blocks' answers -/

theorem checkIn_guarded (p : Port) (s : State) : Guarded s (checkIn p s).state := by
  unfold checkIn
  split_ifs <;> exact .of_eq rfl rfl

theorem serviceArm_guarded (p : Port) (s : State) : Guarded s (serviceArm p s).state := by
  rcases serviceArm_state p s with h | h <;> rw [h]
  · exact .refl s
  · exact .of_eq rfl rfl

theorem report_guarded (p : Port) (e c : Byte) (detail : Option Half) (s : State) :
    Guarded s (report p e c detail s).state := by
  rcases report_state p e c detail s with h | ⟨e', c', h⟩ <;> rw [h]
  · exact .refl s
  · exact handReport_guarded _ s

theorem setFloor_guarded (p : Port) (profile : Byte) (s : State) : Guarded s (setFloor p profile s).state := by
  rcases setFloor_state p profile s with h | ⟨f, h⟩ <;> rw [h]
  · exact .refl s
  · exact .of_eq (by simp) (by simp)

theorem adopt_guarded (p : Port) (generation : Half) (s : State) : Guarded s (adopt p generation s).state := by
  rcases adopt_state p generation s with h | ⟨d, v, h⟩ <;> rw [h]
  · exact .refl s
  · exact .of_eq rfl rfl

theorem passBallot_guarded (b : Ballot) (s : State) : Guarded s (passBallot b s).state := by
  unfold passBallot
  split
  · exact .of_eq (by simp [accept]) (by simp [accept])
  · exact .quiet (quiet_closeBallot (some (.voided .noSlot)) s)

theorem openBallot_guarded (p : Port) (e : Element) (s : State) : Guarded s (openBallot p e s).state := by
  have opened : Guarded s (setBallot (some (newBallot p e s)) s) := .of_eq rfl rfl
  unfold openBallot
  dsimp only
  split
  · exact opened.trans (passBallot_guarded _ _)
  · exact opened.trans (.quiet (quiet_postBallot _ _ _))

theorem release_guarded (p : Port) (element : Byte) (s : State) : Guarded s (release p element s).state := by
  rcases release_state p element s with h | ⟨e, h⟩ <;> rw [h]
  · exact .refl s
  · exact openBallot_guarded p e s

theorem answerBallot_guarded (p : Port) (b : Ballot) (s : State) : Guarded s (answerBallot p b s).state := by
  unfold answerBallot
  split
  · exact .refl s
  · have answered : Guarded s (onNotices p (fun v => { v with ballot := none })
        (setBallot (some { b with answered := b.answered.set p true }) s)) := .of_eq rfl rfl
    dsimp only
    split
    · exact answered.trans (passBallot_guarded _ _)
    · exact answered

theorem consent_guarded (p : Port) (element : Byte) (s : State) : Guarded s (consent p element s).state := by
  unfold consent
  split
  · exact .refl s
  · exact answerBallot_guarded p _ s

theorem veto_guarded (p : Port) (element : Byte) (s : State) : Guarded s (veto p element s).state := by
  unfold veto
  split
  · exact .refl s
  · exact .quiet (quiet_closeBallot (some .vetoed) s)

theorem acceptStart_retained (p : Port) (s : State) : (acceptStart p s).retained = s.retained := by
  unfold acceptStart
  dsimp only
  split_ifs <;> simp

theorem start_guarded (p : Port) (named : Half) (s : State) : Guarded s (start p named s).state := by
  rcases start_state p named s with h | h <;> rw [h]
  · exact .refl s
  · exact .of_eq (acceptStart_cases p s).2.2.1 (acceptStart_retained p s)

/-! ### The timers and the samples -/

/-- An event that takes place only sometimes. -/
theorem Guarded.ite {taken : Prop} [Decidable taken] {s t : State} (h : Guarded s t) :
    Guarded s (if taken then t else s) := by
  split
  · exact h
  · exact .refl s

theorem decayExpiry_guarded (e : Element) (c : FaultClass) (s : State) : Guarded s (decayExpiry e c s) := by
  unfold decayExpiry
  split
  · exact .refl s
  · refine .ite (.of_eq (by rw [(takeDecay_parts e c _ s).2]) ?_)
    unfold takeDecay
    dsimp only
    split <;> rfl

theorem checkInDeadlineExpiry_guarded (p : Port) (s : State) : Guarded s (checkInDeadlineExpiry p s) :=
  .ite (Guarded.trans (t := setContact p _ s) (.of_eq rfl rfl) (handReport_guarded _ _))

theorem adoptionDeadlineExpiry_guarded (d : DrivePort) (s : State) : Guarded s (adoptionDeadlineExpiry d s) :=
  .ite ((Guarded.quiet (quiet_setAdoption _ _ s)).trans
    ((handReport_guarded _ _).trans (.quiet (quiet_restartAdoption d _))))

theorem trialExpiry_guarded (slot : TrialSlot) (s : State) : Guarded s (trialExpiry slot s) := by
  unfold trialExpiry
  split
  · exact .refl s
  · exact .ite (.of_eq (by simp) (by simp))

theorem startVoteReports_guarded (s : State) : Guarded s (startVoteReports s) :=
  foldl_keeps (P := Guarded s) (f := fun s p => handReport (startVoteReport p) s)
    (fun _ u hu => hu.trans (handReport_guarded _ u)) _ (.refl s)

theorem startWindowExpiry_guarded (s : State) : Guarded s (startWindowExpiry s) :=
  .ite ((startVoteReports_guarded s).trans (.of_eq (by simp) (by simp)))

theorem requestFailsafe_guarded (cause : Cause) (s : State) : Guarded s (requestFailsafe cause s) :=
  .of_eq (by simp) (by simp)

theorem integrityCheckExpiry_guarded (s : State) : Guarded s (integrityCheckExpiry s) := by
  have reloaded : Guarded s { s with osc.integrity := some integrityPeriod } := .of_eq rfl rfl
  refine .ite ?_
  unfold checkIntegrity
  split
  · exact reloaded
  · exact reloaded.trans (requestFailsafe_guarded _ _)

theorem sampleLine_guarded (l : FaultLine) (high : Bool) (s : State) : Guarded s (sampleLine l high s) := by
  have filtered : ∀ v, Guarded s (setLine l v s) := fun v => .quiet (quiet_setLine l v s)
  have reported : ∀ v r, Guarded s (handReport r (setLine l v s)) :=
    fun v r => (filtered v).trans (handReport_guarded r _)
  refine .ite ?_
  split
  · unfold sampleLevel
    dsimp only
    split
    · exact reported _ _
    · exact filtered _
  · unfold sampleEdge
    dsimp only
    split
    · exact filtered _
    · split
      · exact reported _ _
      · exact filtered _

theorem sampleReadback_guarded (first : DrivePort) (v : Readback) (s : State) :
    Guarded s (sampleReadback first v s) := by
  have counted := Guarded.quiet (quiet_countMismatches v s)
  rcases sampleReadback_cases first v s with h | ⟨d, -, h⟩ <;> rw [h]
  · exact counted
  · exact counted.trans (requestFailsafe_guarded _ _)

theorem tick_guarded (s : State) : Guarded s (tick s) := by
  unfold tick
  split <;> exact .of_eq rfl rfl

/-! ### The guarded requests -/

/-- A guarded move that leaves the configuration port as it is and sets no service arm. -/
structure LinkGuarded (s t : State) : Prop extends Guarded s t where
  configPort : t.osc.configPort = s.osc.configPort
  arm : t.osc.arm = true → s.osc.arm = true

theorem linkGuardedMoves : LinkMoves LinkGuarded where
  refl s := ⟨.refl s, rfl, id⟩
  trans h k := ⟨h.toGuarded.trans k.toGuarded, k.configPort.trans h.configPort, h.arm ∘ k.arm⟩
  port p v s := ⟨guardedMoves.port p v s, rfl, id⟩
  disarm p s := ⟨guardedMoves.disarm p s, by simp, fun h => by simp_all [disarmFrom_arm]⟩
  report hr s := ⟨guardedMoves.report hr s, by simp, by simp⟩

/-- A WRITE_CONFIG does nothing but from the configuration port (Table 10.5). -/
theorem writeConfig_port (p : Port) (kb nb : Byte) (entry : List Byte) (s : State) :
    (writeConfig p kb nb entry s).state = s ∨ p = s.osc.configPort := by
  unfold writeConfig
  split_ifs with hf hc hp
  · exact .inl rfl
  · exact .inl rfl
  · exact .inl rfl
  · exact .inr (not_not.mp hp)

/-- A SERVICE_CLEAR does nothing but from the configuration port, with the arm set (Table 9.3). -/
theorem serviceClear_armed (p : Port) (n : Byte) (s : State) :
    (serviceClear p n s).state = s ∨ (p = s.osc.configPort ∧ s.osc.arm = true) := by
  unfold serviceClear
  split_ifs with hf hp ha
  · exact .inl rfl
  · exact .inl rfl
  · exact .inl rfl
  · exact .inr ⟨not_not.mp hp, by simpa using ha⟩

theorem acceptWrite_retained (k : Sect) (n : Nat) (entry : List Byte) (s : State) :
    (acceptWrite k n entry s).retained = s.retained := by
  unfold acceptWrite afterWrite
  split
  · split <;> rfl
  all_goals simp

/-- What a command does to the image, the key-cycle counter and the lockouts: it keeps them, or it is one of the
commands that may change the one or the other (R150, R155, R163, R164, R167). -/
inductive Guard (i : Instr) (s t : State) : Prop where
  | keeps (h : Guarded s t)
  | write (k n : Byte) (entry : List Byte) (asked : i = .writeConfig s.osc.configPort k n entry)
      (isConfig : s.osc.part = .config) (retained : t.retained = s.retained)
  | clear (n : Byte) (asked : i = .serviceClear s.osc.configPort n) (armed : s.osc.arm = true)
      (image : t.osc.image = s.osc.image) (keyCycles : t.retained.keyCycles = s.retained.keyCycles)
  | powerOn (c1 c0 : Bool) (asked : i = .powerOnReset c1 c0)
  | keyCycle (asked : i = .keyCycleReset) (image : t.osc.image = s.osc.image)
      (entries : t.retained.entries = s.retained.entries)
  | corrupt (asked : isCorruption i = true) (retained : t.retained = s.retained)

theorem sendReply_guarded {u : State} {t : Taken} (h : t.state = u) (p : Port) (code : Byte) :
    Guarded u (sendReply p code t) := by
  rw [← h]
  exact guardedMoves.port p _ _

/-- A SERVICE_CLEAR leaves the image and the key-cycle counter (R155). -/
theorem serviceClear_keeps (p : Port) (n : Byte) (s : State) :
    (serviceClear p n s).state.osc.image = s.osc.image ∧
    (serviceClear p n s).state.retained.keyCycles = s.retained.keyCycles := by
  rcases serviceClear_state p n s with h | ⟨es, h⟩ <;> rw [h]
  · exact ⟨rfl, rfl⟩
  · rw [unlockEntries_eq]
    exact ⟨rfl, rfl⟩

/-- A key-cycle reset, where it is taken, counts the key cycle, and keeps the image and the entries (R150, R162). -/
theorem keyCycleReset_guard (s : State) : Guard .keyCycleReset s (unlessHeld keyCycle s) := by
  unfold unlessHeld
  split
  · exact .keeps (.refl s)
  · exact .keyCycle rfl rfl rfl

theorem writeConfig_guard (p : Port) (kb nb : Byte) (entry : List Byte) (s : State) :
    Guard (.writeConfig p kb nb entry) s
      (takeRequest p 0x41#8 (kb :: nb :: entry) true (writeConfig p kb nb entry) s) := by
  rcases linkGuardedMoves.takeRequest_cases p 0x41#8 (kb :: nb :: entry) true (writeConfig p kb nb entry) s with
    h | ⟨u, hu, hq, heq⟩
  · exact .keeps h.toGuarded
  · rw [heq]
    rcases writeConfig_port p kb nb entry u with h | rfl
    · exact .keeps (hu.toGuarded.trans (sendReply_guarded h p _))
    · rcases writeConfig_state u.osc.configPort kb nb entry u with h | ⟨k, n, hc, -, h⟩
      · exact .keeps (hu.toGuarded.trans (sendReply_guarded h _ _))
      · refine .write kb nb entry (by rw [hu.configPort]) (hq.part ▸ hc) ?_
        show (writeConfig u.osc.configPort kb nb entry u).state.retained = _
        rw [h, acceptWrite_retained, hq.retained]

theorem serviceClear_guard (p : Port) (n : Byte) (s : State) :
    Guard (.serviceClear p n) s (takeRequest p 0x49#8 [n] false (serviceClear p n) s) := by
  rcases linkGuardedMoves.takeRequest_cases p 0x49#8 [n] false (serviceClear p n) s with h | ⟨u, hu, -, heq⟩
  · exact .keeps h.toGuarded
  · rw [heq]
    rcases serviceClear_armed p n u with h | ⟨rfl, harm⟩
    · exact .keeps (hu.toGuarded.trans (sendReply_guarded h p _))
    · obtain ⟨himage, hkeys⟩ := serviceClear_keeps u.osc.configPort n u
      exact .clear n (by rw [hu.configPort]) (hu.arm harm) (himage.trans hu.image) (hkeys.trans hu.keyCycles)

theorem exec_guard {i : Instr} {s t : State} (h : exec i s = .next t) : Guard i s t := by
  have request : ∀ {p : Port} {code : Byte} {payload : List Byte} {disarms : Bool} {act : State → Taken},
      (∀ u, Guarded u (act u).state) → Guard i s (takeRequest p code payload disarms act s) :=
    fun h => .keeps (guardedMoves.takeRequest h s)
  have reads : ∀ {p : Port} {code : Byte} {payload : List Byte} {disarms : Bool} {act : State → Taken},
      (∀ u, (act u).state = u) → Guard i s (takeRequest p code payload disarms act s) :=
    fun h => request fun u => by rw [h u]; exact .refl u
  have event : ∀ {f : State → State}, Guarded s (f s) → Guard i s (unlessHeld f s) :=
    fun h => .keeps (guardedMoves.unlessHeld s h)
  cases i <;> obtain rfl := Host.Outcome.next.inj h
  case readStatus p page => exact reads (readStatus_state p page)
  case readEnvelope p => exact reads fun _ => rfl
  case readElement p n => exact reads (readElement_state n)
  case readFault p n => exact reads (readFault_state n)
  case readRetained p n => exact reads (readRetained_state n)
  case readNotice p => exact request fun _ => .of_eq rfl rfl
  case readConfig p k n => exact reads (readConfig_state k n)
  case checkIn p => exact request (checkIn_guarded p)
  case report p e c detail => exact request (report_guarded p e c detail)
  case setFloor p profile => exact request (setFloor_guarded p profile)
  case adopt p generation => exact request (adopt_guarded p generation)
  case release p element => exact request (release_guarded p element)
  case consent p element => exact request (consent_guarded p element)
  case veto p element => exact request (veto_guarded p element)
  case start p named => exact request (start_guarded p named)
  case writeConfig p k n entry => exact writeConfig_guard p k n entry s
  case serviceArm p => exact request (serviceArm_guarded p)
  case serviceClear p which => exact serviceClear_guard p which s
  case unknownRequest p code payload => exact .keeps (guardedMoves.unknownRequest p code payload s)
  case frameDiscard p kind => exact event (guardedMoves.frameDiscard p kind s)
  case gapDiscard p => exact event (guardedMoves.gapDiscard p s)
  case replyComplete p => exact event (guardedMoves.endReply p s)
  case powerOnReset c1 c0 => exact .powerOn c1 c0 rfl
  case keyCycleReset => exact keyCycleReset_guard s
  case resetEnd => exact .keeps (.ite (.of_eq rfl rfl))
  case decayExpiry e c => exact event (decayExpiry_guarded e c s)
  case checkInDeadlineExpiry p => exact event (checkInDeadlineExpiry_guarded p s)
  case dwellExpiry => exact event (.quiet (quiet_dwellExpiry s))
  case adoptionDeadlineExpiry d => exact event (adoptionDeadlineExpiry_guarded d s)
  case ballotWindowExpiry => exact event (.quiet (quiet_ballotWindowExpiry s))
  case trialExpiry slot => exact event (trialExpiry_guarded slot s)
  case startWindowExpiry => exact event (startWindowExpiry_guarded s)
  case integrityCheckExpiry => exact event (integrityCheckExpiry_guarded s)
  case lineQualify l => exact event (.ite (sampleLine_guarded l _ s))
  case lineUnqualify l => exact event (.ite (sampleLine_guarded l _ s))
  case lineEdge l => exact event (.ite (sampleLine_guarded l _ s))
  case readbackMismatch m => exact event (.ite (sampleReadback_guarded _ _ s))
  case svcDeasserted => exact event (.quiet (quiet_sampleSvc false s))
  case lineSample l high => exact event (sampleLine_guarded l high s)
  case readbackSample first levels => exact event (sampleReadback_guarded first levels s)
  case svcAsserted => exact event (.quiet (quiet_sampleSvc true s))
  case millisecondTick => exact event (tick_guarded s)
  case configurationImageCorruption k b => exact .corrupt rfl (by rw [exec_corruption h rfl])
  case frameStart p b => exact event (guardedMoves.startFrame p b s)

/-- Settles O60: each of the commands that do not keep all three is one that the rule names. -/
theorem configurationAndLockoutsAreGuarded : Obligations.ConfigurationAndLockoutsAreGuarded := by
  unfold Obligations.ConfigurationAndLockoutsAreGuarded
  intro i s t h
  have unlocked : ∀ {e}, (s.retained.entries.get e).locked = true → (t.retained.entries.get e).locked = false →
      t.retained.entries ≠ s.retained.entries := fun hs ht h => by simp [h, hs] at ht
  cases exec_guard h with
  | keeps h =>
    exact ⟨fun hi => absurd h.image hi, fun _ => h.keyCycles, fun e hs ht => by simp [h.locked e hs] at ht⟩
  | write k n entry asked isConfig retained =>
    exact ⟨fun _ => .inl ⟨k, n, entry, asked, isConfig⟩, fun _ => by rw [retained],
      fun e hs ht => absurd (by rw [retained]) (unlocked hs ht)⟩
  | clear n asked armed image keyCycles =>
    exact ⟨fun hi => absurd image hi, fun _ => keyCycles, fun _ _ _ => .inr ⟨n, asked, armed⟩⟩
  | powerOn c1 c0 asked =>
    subst asked
    exact ⟨fun _ => .inr (.inl ⟨c1, c0, rfl⟩), nofun, fun _ _ _ => .inl ⟨c1, c0, rfl⟩⟩
  | keyCycle asked image entries =>
    subst asked
    exact ⟨fun hi => absurd image hi, nofun, fun e hs ht => absurd entries (unlocked hs ht)⟩
  | corrupt asked retained =>
    exact ⟨fun _ => .inr (.inr asked), fun _ => by rw [retained],
      fun e hs ht => absurd (by rw [retained]) (unlocked hs ht)⟩

end Sys2Proof.Machine
end

section
/-! The entries of the configuration image (O8): each byte of an entry packed again from the fields read of it,
and an entry put in the image beside every other. -/

namespace Sys2Proof.Machine

/-! ### One byte from its fields -/

/-- A list of a known length, byte by byte. -/
theorem map_byteAt {b : List Byte} {n : Nat} (h : b.length = n) : (List.range n).map (byteAt b) = b := by
  subst h
  refine List.ext_getElem (by simp) fun i _ hi => ?_
  simp [byteAt, hi]

@[simp] theorem natByte_toNat (b : Byte) : natByte b.toNat = b := by simp [natByte]

/-- A two-byte number read at a place is sent again in the two bytes of that place. -/
@[simp] theorem natBytes_numAt (b : List Byte) (n : Nat) : natBytes (numAt b n) = [byteAt b n, byteAt b (n + 1)] := by
  simp [natBytes, numAt, halfBytes]

/-- A byte below 2^n is packed again from its first n bits. -/
theorem flagByte_lowBits {b : Byte} {n : Nat} (h : b.toNat < 2 ^ n) : flagByte ((List.range n).map b.getLsbD) = b := by
  refine BitVec.eq_of_getLsbD_eq fun i hi => ?_
  rw [flagByte_getLsbD, decide_eq_true hi, Bool.true_and, List.getD_eq_getElem?_getD, List.getElem?_map]
  by_cases hn : i < n
  · simp [hn]
  · have hzero : b.getLsbD i = false :=
      Nat.testBit_lt_two_pow (Nat.lt_of_lt_of_le h (Nat.pow_le_pow_right (by decide) (Nat.not_lt.mp hn)))
    simp [hn, hzero]

theorem flagByte_bits (b : Byte) :
    flagByte [b.getLsbD 0, b.getLsbD 1, b.getLsbD 2, b.getLsbD 3, b.getLsbD 4, b.getLsbD 5, b.getLsbD 6,
      b.getLsbD 7] = b :=
  flagByte_lowBits (n := 8) b.isLt

theorem flagByte_lowThree {b : Byte} (h : b.toNat ≤ 7) : flagByte [b.getLsbD 0, b.getLsbD 1, b.getLsbD 2] = b :=
  flagByte_lowBits (n := 3) (Nat.lt_succ_of_le h)

theorem flagByte_lowTwo {b : Byte} (h : b.toNat ≤ 3) : flagByte [b.getLsbD 0, b.getLsbD 1] = b :=
  flagByte_lowBits (n := 2) (Nat.lt_succ_of_le h)

/-- The bits that Table 11.9 assigns in the byte of the last three cares are the low three. -/
theorem le_seven_of_reserved {b : Byte} (h : b &&& 0xF8#8 = 0#8) : b.toNat ≤ 7 := by
  revert b
  decide

/-- A byte within 0x0F is the byte of the port set in it. -/
theorem portSetByte_portSetOf {b : Byte} (h : b.toNat ≤ 15) : portSetByte (portSetOf b) = b :=
  flagByte_lowBits (n := 4) (Nat.lt_succ_of_le h)

theorem derate_beq (f : Bool) : ((if f then FaultAction.derate else .isolate) == .derate) = f := by cases f <;> rfl

theorem edge_beq (f : Bool) : ((if f then LineMode.edge else .level) == .edge) = f := by cases f <;> rfl

/-- A byte of four two-bit categories is packed again from the categories read of it. -/
theorem fourCategories_requiredOf (b : Byte) :
    fourCategories (requiredOf (b.getLsbD 1) (b.getLsbD 0)) (requiredOf (b.getLsbD 3) (b.getLsbD 2))
      (requiredOf (b.getLsbD 5) (b.getLsbD 4)) (requiredOf (b.getLsbD 7) (b.getLsbD 6)) = b := by
  revert b
  decide

/-- The byte of the last three categories, whose reserved top field is 0, which is the code of OK. -/
theorem fourCategories_last {b : Byte} (h : b &&& 0xC0#8 = 0#8) :
    fourCategories (requiredOf (b.getLsbD 1) (b.getLsbD 0)) (requiredOf (b.getLsbD 3) (b.getLsbD 2))
      (requiredOf (b.getLsbD 5) (b.getLsbD 4)) .ok = b := by
  revert b
  decide

/-- The first byte of a MODERULE entry: the valid flag and the target profile. -/
theorem validAndTarget_packed {b : Byte} (h : b &&& 0x8E#8 = 0#8) :
    flagByte [b.getLsbD 0] ||| (natByte (profileRank (profileOfBits (b.extractLsb' 4 3))) <<< 4) = b := by
  revert b
  decide

theorem powerCode_two_pow {n : Nat} (h : n < 4) : powerCode (2 ^ n) = n := by
  revert n
  decide

/-- The first byte of a LINE entry: three flags and the codes of filter count and sample interval. -/
theorem lineByte_packed {b : Byte} (h : b &&& 0x80#8 = 0#8) :
    flagByte [b.getLsbD 0, b.getLsbD 1, b.getLsbD 2] ||| (natByte (powerCode (2 ^ (b.extractLsb' 3 2).toNat)) <<< 3) |||
      (natByte (powerCode (2 ^ (b.extractLsb' 5 2).toNat)) <<< 5) = b := by
  rw [powerCode_two_pow (b.extractLsb' 3 2).isLt, powerCode_two_pow (b.extractLsb' 5 2).isLt]
  revert b
  decide

/-- The byte of an element's number within 0 to 10 is the number of the element read of it. -/
theorem natByte_elementCode {b : Byte} (h : b.toNat ≤ 10) (stray : Element) :
    natByte (elementCode ((elementOf b).getD stray)) = b := by
  have hlt : b.toNat < allElements.length := Nat.lt_succ_of_le h
  have he : elementOf b = some allElements[b.toNat] := List.getElem?_eq_getElem hlt
  rw [he]
  exact (eq_of_elementOf he).symm

/-- The classes that a LINE entry may name, C0 to C4 (R183). -/
def reportableClasses : List FaultClass := [.overcurrent, .overtemperature, .sensorImplausible, .supplyRange, .stall]

/-- The byte of a class's number within 0 to 4 is the number of the class read of it. -/
theorem natByte_classCode {b : Byte} (h : b.toNat ≤ 4) (stray : FaultClass) :
    natByte (classCode ((reportableClassOf b).getD stray)) = b := by
  have hlt : b.toNat < reportableClasses.length := Nat.lt_succ_of_le h
  have hcode : ∀ k (hk : k < reportableClasses.length), classCode reportableClasses[k] = k := by decide
  have hc : reportableClassOf b = some reportableClasses[b.toNat] := List.getElem?_eq_getElem hlt
  rw [hc, Option.getD_some, hcode, natByte_toNat]

/-! ### The eight layouts (Table 11.9) -/

section
variable {b : List Byte}

theorem classEntry_classOf (h : fieldsInRange .cls b = true) : classEntry (classOf b) = b := by
  have hlength := length_of_fieldsInRange h
  simp only [fieldsInRange, Bool.and_eq_true, decide_eq_true_eq] at h
  obtain ⟨-, -, hflags⟩ := h
  calc classEntry (classOf b)
      = [byteAt b 0, byteAt b 1, byteAt b 2, byteAt b 3, byteAt b 4, byteAt b 5] := by
        simp only [classEntry, classOf, natByte_toNat, derate_beq, flagByte_lowTwo hflags,
          Nat.mul_div_cancel_left _ (show 0 < 10 by decide)]
    _ = b := map_byteAt hlength

theorem elementEntry_elementConfigOf (h : fieldsInRange .element b = true) : elementEntry (elementConfigOf b) = b := by
  have hlength := length_of_fieldsInRange h
  simp only [fieldsInRange, Bool.and_eq_true, decide_eq_true_eq] at h
  obtain ⟨-, ⟨hrights, hconsent⟩, -⟩ := h
  calc elementEntry (elementConfigOf b)
      = [byteAt b 0, byteAt b 1, byteAt b 2] := by
        simp [elementEntry, elementConfigOf, portSetByte_portSetOf hrights, portSetByte_portSetOf hconsent]
    _ = b := map_byteAt hlength

theorem groupEntry_durationOf (h : fieldsInRange .group b = true) : groupEntry (durationOf b) = b :=
  calc groupEntry (durationOf b)
      = [byteAt b 0, byteAt b 1] := by simp [groupEntry, durationOf]
    _ = b := map_byteAt (length_of_fieldsInRange h)

theorem profileEntry_limitsOf (h : fieldsInRange .profile b = true) : profileEntry (limitsOf b) = b := by
  have hlength := length_of_fieldsInRange h
  simp only [fieldsInRange, Bool.and_eq_true, decide_eq_true_eq] at h
  obtain ⟨-, -, hflags⟩ := h
  calc profileEntry (limitsOf b)
      = [byteAt b 0, byteAt b 1, byteAt b 2, byteAt b 3] := by
        simp only [profileEntry, limitsOf, natByte_toNat, flagByte_lowThree hflags]
    _ = b := map_byteAt hlength

/-- The cares of E0 to E7 are the bits of byte 1, those of E8 to E10 the low bits of byte 2; the categories are read
from bytes 3 to 5, four elements each. -/
theorem modeRuleEntry_modeRuleOf (h : fieldsInRange .modeRule b = true) : modeRuleEntry (modeRuleOf b) = b := by
  have hlength := length_of_fieldsInRange h
  simp only [fieldsInRange, Bool.and_eq_true, beq_iff_eq] at h
  obtain ⟨-, ⟨hfirst, hcares⟩, hlast⟩ := h
  calc modeRuleEntry (modeRuleOf b)
      = [byteAt b 0, byteAt b 1, byteAt b 2, byteAt b 3, byteAt b 4, byteAt b 5] := by
        simp only [modeRuleEntry, modeRuleOf, PerElement.of, elementCode, BitVec.getLsbD_append]
        simp only [Nat.reduceMul, Nat.reduceAdd, Nat.reduceSub, Nat.reduceLT, if_true, if_false,
          validAndTarget_packed hfirst, flagByte_bits, flagByte_lowThree (le_seven_of_reserved hcares),
          fourCategories_requiredOf, fourCategories_last hlast]
    _ = b := map_byteAt hlength

theorem lineEntry_lineConfigOf (h : fieldsInRange .line b = true) : lineEntry (lineConfigOf b) = b := by
  have hlength := length_of_fieldsInRange h
  simp only [fieldsInRange, Bool.and_eq_true, beq_iff_eq, decide_eq_true_eq] at h
  obtain ⟨-, ⟨hfirst, helement⟩, hclass⟩ := h
  calc lineEntry (lineConfigOf b)
      = [byteAt b 0, byteAt b 1, byteAt b 2] := by
        simp only [lineEntry, lineConfigOf, edge_beq, lineByte_packed hfirst, natByte_elementCode helement,
          natByte_classCode hclass]
    _ = b := map_byteAt hlength

theorem portEntry_deadlineOf (h : fieldsInRange .port b = true) : portEntry (deadlineOf b) = b :=
  calc portEntry (deadlineOf b)
      = [byteAt b 0] := by simp [portEntry, deadlineOf]
    _ = b := map_byteAt (length_of_fieldsInRange h)

theorem globalEntry_globalOf (h : fieldsInRange .glob b = true) : globalEntry (globalOf b) = b :=
  calc globalEntry (globalOf b)
      = [byteAt b 0, byteAt b 1, byteAt b 2, byteAt b 3, byteAt b 4, byteAt b 5, byteAt b 6] := by
        simp [globalEntry, globalOf]
    _ = b := map_byteAt (length_of_fieldsInRange h)

end

/-! ### Entries beside each other (R183) -/

/-- Of two sections one ends where the other begins, or before. -/
theorem sections_beside {k l : Sect} (h : l ≠ k) :
    sectBase l + sectLength l * sectCount l ≤ sectBase k ∨ sectBase k + sectLength k * sectCount k ≤ sectBase l := by
  revert h
  cases k <;> cases l <;> decide

theorem entry_before_of_lt (k : Sect) {m n : Nat} (h : m < n) : entryOffset k m + sectLength k ≤ entryOffset k n := by
  have := Nat.mul_le_mul_left (sectLength k) (Nat.succ_le_of_lt h)
  rw [Nat.mul_succ] at this
  unfold entryOffset
  omega

theorem entry_within_section {k : Sect} {n : Nat} (h : n < sectCount k) :
    entryOffset k n + sectLength k ≤ sectBase k + sectLength k * sectCount k := entry_before_of_lt k h

theorem sectBase_le_entryOffset (k : Sect) (n : Nat) : sectBase k ≤ entryOffset k n := Nat.le_add_right _ _

/-- Two entries of the image that are not the same stand beside each other. -/
theorem entries_beside {k l : Sect} {n m : Nat} (hn : n < sectCount k) (hm : m < sectCount l) (h : ¬(l = k ∧ m = n)) :
    entryOffset l m + sectLength l ≤ entryOffset k n ∨ entryOffset k n + sectLength k ≤ entryOffset l m := by
  by_cases hl : l = k
  · subst hl
    rcases Nat.lt_or_gt_of_ne fun hmn => h ⟨rfl, hmn⟩ with hlt | hlt
    · exact .inl (entry_before_of_lt l hlt)
    · exact .inr (entry_before_of_lt l hlt)
  · exact (sections_beside hl).imp
      (fun hb => (entry_within_section hm).trans (hb.trans (sectBase_le_entryOffset k n)))
      (fun hb => (entry_within_section hn).trans (hb.trans (sectBase_le_entryOffset l m)))

/-- Settles O8: the eight layouts, and an entry put in an image, itself and beside every other. -/
theorem entriesAreWrittenAndReadWhole : Obligations.EntriesAreWrittenAndReadWhole := by
  unfold Obligations.EntriesAreWrittenAndReadWhole
  refine ⟨fun b => ⟨classEntry_classOf, elementEntry_elementConfigOf, groupEntry_durationOf, profileEntry_limitsOf,
    modeRuleEntry_modeRuleOf, lineEntry_lineConfigOf, portEntry_deadlineOf, globalEntry_globalOf⟩, ?_⟩
  intro image entry k n himage hn hentry
  have hfits : entryOffset k n ≤ image.length :=
    himage ▸ (Nat.le_add_right _ _).trans (entryOffset_add_le hn)
  exact ⟨entryAt_putEntry hentry hfits, length_putEntry hn hentry himage,
    fun l m hm h => entryAt_putEntry_of_beside hn hentry himage (entries_beside hn hm h)⟩

end Sys2Proof.Machine
end

section
/-! READ_CONFIG (O14): what stands at a section and an index, and the answer of it. -/

namespace Sys2Proof.Machine

theorem readConfig_of_entry {k n : Byte} {s : State} {entry : List Byte} (h : configEntry k n s = some entry) :
    readConfig k n s = accept (k :: n :: entry) s := by
  simp only [readConfig, h]

theorem readConfig_of_none {k n : Byte} {s : State} (h : configEntry k n s = none) :
    readConfig k n s = refuse .range s := by
  simp only [readConfig, h]

/-- The byte of a section is its number, which is below 8, the number of the digests. -/
theorem eq_of_sectOf {k : Byte} {sect : Sect} (h : sectOf k = some sect) :
    k ≠ 8#8 ∧ (sect = .cls → k = 0#8) ∧ (sect = .profile → k = 3#8) := by
  revert k
  cases sect <;> decide

theorem configEntry_image {k n : Byte} {sect : Sect} (hk : sectOf k = some sect) (hn : n.toNat < sectCount sect)
    (s : State) : configEntry k n s = some (entryAt s.osc.image sect n.toNat) := by
  obtain ⟨hdigests, -, -⟩ := eq_of_sectOf hk
  simp only [configEntry, hdigests, hk, hn, if_false, if_true]

theorem configEntry_class7 (s : State) :
    configEntry 0#8 7#8 s = some [255#8, 1#8, 0#8, 0#8, 0#8, 0#8] := rfl

theorem configEntry_profile7 (s : State) : configEntry 3#8 7#8 s = some [0#8, 0#8, 0#8, 0#8] := rfl

/-- The five bytes that READ_CONFIG answers for DIGEST (R166, Table 11.5). -/
def digestBytes (current : Half) (frozen : Option Half) : List Byte :=
  halfBytes current ++ [flagByte [frozen.isSome]] ++ halfBytes (frozen.getD 0#16)

theorem configEntry_digests (s : State) :
    configEntry 8#8 0#8 s = some (digestBytes (digest s.osc.image) s.osc.frozen) := rfl

theorem digestBytes_shows (current : Half) (frozen : Option Half) :
    let b := digestBytes current frozen
    b.length = 5 ∧ word16At b 0 = current ∧ byteAt b 2 = (if frozen.isSome then 1#8 else 0#8) ∧
    word16At b 3 = frozen.getD 0#16 :=
  ⟨rfl, byte_append_halfBytes _, flagByte_singleton _, byte_append_halfBytes _⟩

/-- Nothing stands at an index past its section, but for C7, P7 and the digests. -/
theorem configEntry_none {k n : Byte} (hpast : ∀ sect, sectOf k = some sect → sectCount sect ≤ n.toNat)
    (hfixed : ¬((k = 0#8 ∨ k = 3#8) ∧ n = 7#8)) (hdigests : ¬(k = 8#8 ∧ n = 0#8)) (s : State) :
    configEntry k n s = none := by
  unfold configEntry
  by_cases hk : k = 8#8
  · rw [if_pos hk, if_neg fun hn => hdigests ⟨hk, hn⟩]
  · rw [if_neg hk]
    cases hsect : sectOf k with
    | none => rfl
    | some sect =>
      obtain ⟨-, hclass, hprofile⟩ := eq_of_sectOf hsect
      have hclass7 : ¬(sect = .cls ∧ n = 7#8) := fun h => hfixed ⟨.inl (hclass h.1), h.2⟩
      have hprofile7 : ¬(sect = .profile ∧ n = 7#8) := fun h => hfixed ⟨.inr (hprofile h.1), h.2⟩
      simp only [Nat.not_lt.mpr (hpast sect hsect), hclass7, hprofile7, if_false]

/-- Settles O14: what stands at the section and index in each case, and the answer of it. -/
theorem readConfigShowsTheEntry : Obligations.ReadConfigShowsTheEntry := by
  unfold Obligations.ReadConfigShowsTheEntry
  intro p k n s hL r shows
  have answered : ∀ {entry}, configEntry k n r = some entry → shows entry := fun h =>
    answered_of_act hL rfl (by simp) rfl (readConfig_of_entry h)
  refine ⟨fun sect hk hn => answered (configEntry_image hk hn r), ?class7, ?profile7, ?digests,
    fun hpast hfixed hdigests => ?none⟩
  case class7 =>
    rintro ⟨rfl, rfl⟩
    exact answered (configEntry_class7 r)
  case profile7 =>
    rintro ⟨rfl, rfl⟩
    exact answered (configEntry_profile7 r)
  case digests =>
    rintro ⟨rfl, rfl⟩
    exact ⟨_, answered (configEntry_digests r), digestBytes_shows _ _⟩
  case none =>
    exact refused_of_act hL rfl rfl rfl (by simp) rfl (readConfig_of_none (configEntry_none hpast hfixed hdigests r))

end Sys2Proof.Machine
end

section
/-! The frames of requests (O5, O6, O7): a complete frame decodes by its CRC, a request's own frame to that request, and
a frame with one byte changed to a discard, since no step of the CRC loses a difference. -/

namespace Sys2Proof.Machine

/-! ### Complete frames -/

/-- A complete frame is a CRC discard where the CRC received is not that of its bytes, and otherwise its request. -/
theorem decodeFrame_complete (p : Port) (code lo hi : Byte) {len : Byte} {payload : List Byte}
    (hlen : payload.length = len.toNat) (hmax : len.toNat ≤ 24) :
    decodeFrame p (code :: len :: payload ++ [lo, hi]) =
      some (if crc16 (code :: len :: payload) = hi ++ lo then decodeRequest p code payload
        else .frameDiscard p .crc) := by
  have hfits : ¬maxPayload < payload.length := Nat.not_lt.mpr (hlen.trans_le hmax)
  simp only [decodeFrame, List.cons_append, ← hlen, hfits, if_false, List.take_left, List.drop_left, halfOf_eq_append]
  exact (apply_ite some _ _ _).symm

/-- The parts of a request frame: code, length byte, payload and CRC (R174). -/
theorem requestFrame_eq (code : Byte) (payload : List Byte) :
    requestFrame code payload =
      code :: BitVec.ofNat 8 payload.length :: payload ++
        halfBytes (crc16 (code :: BitVec.ofNat 8 payload.length :: payload)) := rfl

theorem toNat_lengthByte {n : Nat} (h : n ≤ 24) : (BitVec.ofNat 8 n).toNat = n := by
  rw [BitVec.toNat_ofNat]
  omega

/-- The frame of a code and a payload decodes to the request that these spell. -/
theorem decodeFrame_requestFrame (p : Port) (code : Byte) {payload : List Byte} (h : payload.length ≤ 24) :
    decodeFrame p (requestFrame code payload) = some (decodeRequest p code payload) := by
  have hlen := toNat_lengthByte h
  rw [requestFrame_eq, halfBytes, decodeFrame_complete p code _ _ hlen.symm (hlen.le.trans h),
    if_pos (byte_append_halfBytes _).symm]

/-! ### Requests -/

/-- The payload lengths that Table 11.5 gives to a code, if it has the code. -/
theorem codeLengths_cases (code : Byte) :
    codeLengths code = none ∨ codeLengths code = some [0] ∨ codeLengths code = some [1] ∨ codeLengths code = some [2] ∨
    codeLengths code = some [2, 4] ∨ codeLengths code = some [3, 4, 5, 6, 7, 8, 9] := by
  unfold codeLengths
  split <;> simp

section
variable {code : Byte} {payload : List Byte}

/-- Each test of the code that the match of `decodeRequest` compiles to fails. The compiled match is unfolded, since
Lean cannot make the equation of a last pattern that comes after nineteen others within its limit. -/
theorem decodeRequest_of_unknown (hc : codeLengths code = none) (p : Port) :
    decodeRequest p code payload = .unknownRequest p code payload := by
  have hcode : codeKnown code ≠ true := by simp [codeKnown, hc]
  simp only [ne_eq, codeKnown_iff, List.mem_cons, List.not_mem_nil, or_false, not_or] at hcode
  unfold decodeRequest decodeRequest.match_1
  simp only [hcode, dite_false]

theorem decodeRequest_of_lengths_zero (hc : codeLengths code = some [0]) (h : payload.length ≠ 0) (p : Port) :
    decodeRequest p code payload = .unknownRequest p code payload := by
  have hcode : code = 0x11#8 ∨ code = 0x15#8 ∨ code = 0x20#8 ∨ code = 0x48#8 := by
    revert code
    decide
  match payload, h with
  | _ :: _, _ => rcases hcode with rfl | rfl | rfl | rfl <;> rfl

theorem decodeRequest_of_lengths_one (hc : codeLengths code = some [1]) (h : payload.length ≠ 1) (p : Port) :
    decodeRequest p code payload = .unknownRequest p code payload := by
  have hcode : code = 0x10#8 ∨ code = 0x12#8 ∨ code = 0x13#8 ∨ code = 0x14#8 ∨ code = 0x22#8 ∨ code = 0x30#8 ∨
      code = 0x31#8 ∨ code = 0x32#8 ∨ code = 0x49#8 := by
    revert code
    decide
  match payload, h with
  | [], _ | _ :: _ :: _, _ => rcases hcode with rfl | rfl | rfl | rfl | rfl | rfl | rfl | rfl | rfl <;> rfl

theorem decodeRequest_of_lengths_two (hc : codeLengths code = some [2]) (h : payload.length ≠ 2) (p : Port) :
    decodeRequest p code payload = .unknownRequest p code payload := by
  have hcode : code = 0x16#8 ∨ code = 0x23#8 ∨ code = 0x40#8 := by
    revert code
    decide
  match payload, h with
  | [], _ | [_], _ | _ :: _ :: _ :: _, _ => rcases hcode with rfl | rfl | rfl <;> rfl

theorem decodeRequest_of_lengths_report (hc : codeLengths code = some [2, 4]) (h2 : payload.length ≠ 2)
    (h4 : payload.length ≠ 4) (p : Port) : decodeRequest p code payload = .unknownRequest p code payload := by
  obtain rfl : code = 0x21#8 := by
    revert code
    decide
  match payload, h2, h4 with
  | [], _, _ | [_], _, _ | [_, _, _], _, _ | _ :: _ :: _ :: _ :: _ :: _, _, _ => rfl

theorem decodeRequest_of_lengths_writeConfig (hc : codeLengths code = some [3, 4, 5, 6, 7, 8, 9])
    (h : lengthAllowed code payload.length = false) (p : Port) :
    decodeRequest p code payload = .unknownRequest p code payload := by
  obtain rfl : code = 0x41#8 := by
    clear h
    revert code
    decide
  match payload, h with
  | [], _ | [_], _ => rfl
  | _ :: _ :: _, h => exact if_neg (Bool.eq_false_iff.mp h)

/-- A code and a length that Table 11.5 does not allow together spell an UNKNOWN_REQUEST (R175). -/
theorem decodeRequest_of_not_allowed (h : lengthAllowed code payload.length = false) (p : Port) :
    decodeRequest p code payload = .unknownRequest p code payload := by
  rcases codeLengths_cases code with hc | hc | hc | hc | hc | hc
  · exact decodeRequest_of_unknown hc p
  · exact decodeRequest_of_lengths_zero hc (by simpa [lengthAllowed, hc] using h) p
  · exact decodeRequest_of_lengths_one hc (by simpa [lengthAllowed, hc] using h) p
  · exact decodeRequest_of_lengths_two hc (by simpa [lengthAllowed, hc] using h) p
  · have hne : payload.length ≠ 2 ∧ payload.length ≠ 4 := by simpa [lengthAllowed, hc] using h
    exact decodeRequest_of_lengths_report hc hne.1 hne.2 p
  · exact decodeRequest_of_lengths_writeConfig hc h p

end

/-- The code and payload of a well-formed request spell that request. -/
theorem decodeRequest_requestOf {i : Instr} {p : Port} {code : Byte} {payload : List Byte} (hw : i.wellFormed = true)
    (hp : requestPort i = some p) (hq : requestOf i = some (code, payload)) : decodeRequest p code payload = i := by
  cases i with
  | writeConfig q k n entry =>
    cases hp
    cases hq
    exact if_pos hw
  | unknownRequest q c b =>
    cases hp
    cases hq
    exact decodeRequest_of_not_allowed (lengthAllowed_of_wellFormed hw) p
  | report q e c detail =>
    cases hp
    cases detail with
    | none =>
      cases hq
      rfl
    | some d =>
      cases hq
      exact congrArg (fun d => Instr.report p e c (some d)) (halfOf_bytes d)
  | adopt q g =>
    cases hp
    cases hq
    exact congrArg (Instr.adopt p) (halfOf_bytes g)
  | start q d =>
    cases hp
    cases hq
    exact congrArg (Instr.start p) (halfOf_bytes d)
  | readStatus | readEnvelope | readElement | readFault | readRetained | readNotice | readConfig | checkIn | setFloor
  | release | consent | veto | serviceArm | serviceClear =>
    cases hp
    cases hq
    rfl
  | _ => cases hp

/-- A request has a code and a payload, which fits into a frame when the request is well formed (R174, R180). -/
theorem requestOf_of_requestPort {i : Instr} {p : Port} (hw : i.wellFormed = true) (hp : requestPort i = some p) :
    ∃ code payload, requestOf i = some (code, payload) ∧ payload.length ≤ 24 := by
  cases i with
  | writeConfig q k n entry => exact ⟨_, _, rfl, (Laws.RequestForm.writeConfig q k n entry).2 hw _ _ rfl⟩
  | unknownRequest q code payload => exact ⟨_, _, rfl, (Laws.RequestForm.unknownRequest q code payload).2 hw _ _ rfl⟩
  | report q e c detail => cases detail <;> exact ⟨_, _, rfl, by simp [halfBytes]⟩
  | readStatus | readEnvelope | readElement | readFault | readRetained | readNotice | readConfig | checkIn | setFloor
  | adopt | release | consent | veto | start | serviceArm | serviceClear => exact ⟨_, _, rfl, by simp [halfBytes]⟩
  | _ => cases hp

theorem encodeFrame_of_requestOf {i : Instr} {code : Byte} {payload : List Byte}
    (h : requestOf i = some (code, payload)) : encodeFrame i = some (requestFrame code payload) := by
  rw [encodeFrame, h]
  rfl

/-- Settles O5: the CRC of the frame that is sent is right, and its code and payload spell the request. -/
theorem requestFramesDecodeBack : Obligations.RequestFramesDecodeBack := by
  unfold Obligations.RequestFramesDecodeBack
  intro i p hw hp
  obtain ⟨code, payload, hq, hlength⟩ := requestOf_of_requestPort hw hp
  refine ⟨_, encodeFrame_of_requestOf hq, ?_⟩
  rw [decodeFrame_requestFrame p code hlength, decodeRequest_requestOf hw hp hq]

/-! ### Frames written out -/

/-- The bytes of a well-formed request's frame decode to that request. -/
theorem decodeFrame_of_encodeFrame {i : Instr} {p : Port} {bytes : List Byte} (hw : i.wellFormed = true)
    (hp : requestPort i = some p) (he : encodeFrame i = some bytes) : decodeFrame p bytes = some i := by
  obtain ⟨sent, hsent, hdecoded⟩ := requestFramesDecodeBack i p hw hp
  obtain rfl := Option.some.inj (he.symm.trans hsent)
  exact hdecoded

/-- Settles O6: the bytes written out are the frames of the six requests, their CRCs computed by R174. -/
theorem writtenFramesDecode : Obligations.WrittenFramesDecode := by
  unfold Obligations.WrittenFramesDecode
  refine ⟨decodeFrame_of_encodeFrame rfl rfl ?checkIn, decodeFrame_of_encodeFrame rfl rfl ?readStatus,
    decodeFrame_of_encodeFrame rfl rfl ?report, decodeFrame_of_encodeFrame rfl rfl ?adopt,
    decodeFrame_of_encodeFrame rfl rfl ?release, decodeFrame_of_encodeFrame rfl rfl ?writeConfig⟩ <;>
  decide +kernel

/-! ### The CRC of two frames that differ -/

/-- The bit shifted out of the register comes back as bit 0, which the shift leaves clear and the polynomial sets. -/
theorem crcBit_getLsbD_zero (c : Half) : (crcBit c).getLsbD 0 = c.msb := by
  unfold crcBit
  cases c.msb <;> simp

theorem shiftLeft_one_of_crcBit (c : Half) :
    c <<< 1 = crcBit c ^^^ (if (crcBit c).getLsbD 0 then 0x1021#16 else 0#16) := by
  rw [crcBit_getLsbD_zero, crcBit]
  cases c.msb <;> simp

/-- One bit of the CRC keeps different registers different. -/
theorem crcBit_injective : Function.Injective crcBit := by
  intro c d h
  have hmsb : c.msb = d.msb := by rw [← crcBit_getLsbD_zero, h, crcBit_getLsbD_zero]
  have hshift : c <<< 1 = d <<< 1 := by rw [shiftLeft_one_of_crcBit, h, ← shiftLeft_one_of_crcBit]
  refine BitVec.eq_of_getLsbD_eq fun i hi => ?_
  by_cases htop : i = 15
  · simpa [htop, BitVec.msb_eq_getLsbD_last] using hmsb
  · have hbit := congrArg (·.getLsbD (i + 1)) hshift
    simpa [show i + 1 < 16 by omega, BitVec.getLsbD_eq_getElem (show i < 16 by omega)] using hbit

theorem repeat_crcBit_injective (n : Nat) : Function.Injective (Nat.repeat crcBit n) := by
  induction n with
  | zero => exact Function.injective_id
  | succ n ih => exact crcBit_injective.comp ih

/-- The same byte taken into different registers leaves them different. -/
theorem crcByte_injective_left (b : Byte) : Function.Injective (crcByte · b) := fun _ _ h =>
  (BitVec.xor_left_inj _).mp (repeat_crcBit_injective 8 h)

/-- Different bytes taken into a register leave it different. -/
theorem crcByte_injective_right (c : Half) : Function.Injective (crcByte c) := by
  intro a b h
  have hshift : a.setWidth 16 <<< 8 = b.setWidth 16 <<< 8 := (BitVec.xor_right_inj _).mp (repeat_crcBit_injective 8 h)
  refine BitVec.eq_of_getLsbD_eq fun i hi => ?_
  have hbit := congrArg (·.getLsbD (i + 8)) hshift
  simpa [show i + 8 < 16 by omega, show i < 16 by omega] using hbit

theorem foldl_crcByte_injective (bytes : List Byte) : Function.Injective (bytes.foldl crcByte) := by
  induction bytes with
  | nil => exact Function.injective_id
  | cons b bytes ih => exact ih.comp (crcByte_injective_left b)

/-- One byte changed changes the CRC, whatever the register held before. -/
theorem foldl_crcByte_set_ne {bytes : List Byte} {n : Nat} {b : Byte} (hn : n < bytes.length) (hb : byteAt bytes n ≠ b)
    (c : Half) : (bytes.set n b).foldl crcByte c ≠ bytes.foldl crcByte c := by
  induction bytes generalizing n c with
  | nil => cases hn
  | cons a bytes ih =>
    cases n with
    | zero => exact fun h => hb (crcByte_injective_right c (foldl_crcByte_injective bytes h)).symm
    | succ n => exact ih (Nat.lt_of_succ_lt_succ hn) hb (crcByte c a)

theorem crc16_set_ne {bytes : List Byte} {n : Nat} {b : Byte} (hn : n < bytes.length) (hb : byteAt bytes n ≠ b) :
    crc16 (bytes.set n b) ≠ crc16 bytes := foldl_crcByte_set_ne hn hb _

/-! ### Damaged frames -/

theorem decodeFrame_of_length_gt {len : Byte} (h : 24 < len.toNat) (p : Port) (code : Byte) (rest : List Byte) :
    decodeFrame p (code :: len :: rest) = some (.frameDiscard p .length) := if_pos h

/-- A complete frame with a wrong CRC is a CRC discard (R176). -/
theorem decodeFrame_of_crc_ne {len : Byte} {payload : List Byte} (hlen : payload.length = len.toNat)
    (hmax : len.toNat ≤ 24) {code lo hi : Byte} (h : hi ++ lo ≠ crc16 (code :: len :: payload)) (p : Port) :
    decodeFrame p (code :: len :: payload ++ [lo, hi]) = some (.frameDiscard p .crc) := by
  rw [decodeFrame_complete p code lo hi hlen hmax, if_neg h.symm]

/-- A frame whose code or whose payload is changed in one byte is a CRC discard. -/
theorem decodeFrame_body_set {code len : Byte} {payload : List Byte} (hlen : payload.length = len.toNat)
    (hmax : len.toNat ≤ 24) {n : Nat} {b : Byte} (hn : n < (code :: len :: payload).length) (hne : n ≠ 1)
    (hb : byteAt (code :: len :: payload) n ≠ b) (p : Port) :
    decodeFrame p ((code :: len :: payload).set n b ++ halfBytes (crc16 (code :: len :: payload))) =
      some (.frameDiscard p .crc) := by
  have hcrc := (crc16_set_ne hn hb).symm
  rw [← byte_append_halfBytes (crc16 _)] at hcrc
  match n, hne with
  | 0, _ => exact decodeFrame_of_crc_ne hlen hmax hcrc p
  | n + 2, _ => exact decodeFrame_of_crc_ne ((List.length_set ..).trans hlen) hmax hcrc p

/-- Two bytes that make up a value are its low and its high byte. -/
theorem bytes_of_append {lo hi : Byte} {h : Half} (hbytes : hi ++ lo = h) : lowByte h = lo ∧ highByte h = hi := by
  rw [← hbytes, ← halfOf_eq_append]
  exact ⟨lowByte_halfOf lo hi, highByte_halfOf lo hi⟩

/-- A frame whose CRC is changed in one byte is a CRC discard. -/
theorem decodeFrame_crc_set {code len : Byte} {payload : List Byte} (hlen : payload.length = len.toNat)
    (hmax : len.toNat ≤ 24) {n : Nat} {b : Byte} (hn : n < 2)
    (hb : byteAt (halfBytes (crc16 (code :: len :: payload))) n ≠ b) (p : Port) :
    decodeFrame p (code :: len :: payload ++ (halfBytes (crc16 (code :: len :: payload))).set n b) =
      some (.frameDiscard p .crc) := by
  match n, hn with
  | 0, _ => exact decodeFrame_of_crc_ne hlen hmax (fun h => hb (bytes_of_append h).1) p
  | 1, _ => exact decodeFrame_of_crc_ne hlen hmax (fun h => hb (bytes_of_append h).2) p

/-- Settles O7: the length byte first, then the CRC; a byte changed before the CRC changes the CRC that the bytes call
for, a byte changed in it the one received. -/
theorem damagedFramesAreDiscarded : Obligations.DamagedFramesAreDiscarded := by
  unfold Obligations.DamagedFramesAreDiscarded
  refine ⟨fun p code len rest h => decodeFrame_of_length_gt h p code rest,
    fun p code len lo hi payload hlen hmax h => decodeFrame_of_crc_ne hlen hmax h p, ?changed⟩
  intro i p bytes n b hw hp he hn hne hb
  obtain ⟨code, payload, hq, hlength⟩ := requestOf_of_requestPort hw hp
  obtain rfl := Option.some.inj ((encodeFrame_of_requestOf hq).symm.trans he)
  have hlen := (toNat_lengthByte hlength).symm
  have hmax := hlen.symm.trans_le hlength
  rw [requestFrame_eq] at hn hb ⊢
  rw [List.length_append] at hn
  by_cases hbody : n < (code :: BitVec.ofNat 8 payload.length :: payload).length
  · rw [byteAt, List.getD_append _ _ _ _ hbody] at hb
    rw [List.set_append_left _ _ hbody]
    exact decodeFrame_body_set hlen hmax hbody hne hb p
  · have hcrc := Nat.not_lt.mp hbody
    rw [byteAt, List.getD_append_right _ _ _ _ hcrc] at hb
    rw [List.set_append_right _ _ hcrc]
    exact decodeFrame_crc_set hlen hmax ((Nat.sub_lt_iff_lt_add' hcrc).mpr hn) hb p

end Sys2Proof.Machine
end

section
/-! READ_NOTICE (O13): the notice that comes next in a pending set, and the set that it leaves. -/

namespace Sys2Proof.Machine

/-! ### The next notice (R179, Table 11.4) -/

section
variable {v : NoticeSet} (r : RecoveryUnit)

theorem nextNotice_envelope {g : Half} (h : v.envelope = some g) :
    nextNotice r v = ([1#8, lowByte g, highByte g, 0#8], { v with envelope := none }) := by
  cases v
  subst h
  rfl

theorem nextNotice_ballot {e : Element} (henvelope : v.envelope = none) (h : v.ballot = some e) :
    nextNotice r v = ([2#8, natByte (elementCode e)] ++ natBytes (windowLeft r), { v with ballot := none }) := by
  cases v
  subst henvelope h
  rfl

theorem nextNotice_confirmed {e : Element} {c : Option FaultClass} (henvelope : v.envelope = none)
    (hballot : v.ballot = none) (h : v.confirmed = some (e, c)) :
    nextNotice r v =
      ([3#8, natByte (elementCode e), natByte ((c.map classCode).getD 0xFF), 0#8], { v with confirmed := none }) := by
  cases v
  subst henvelope hballot h
  rfl

theorem nextNotice_trial {e : Element} {o : TrialOutcome} (henvelope : v.envelope = none) (hballot : v.ballot = none)
    (hconfirmed : v.confirmed = none) (h : v.trial = some (e, o)) :
    nextNotice r v =
      ([4#8, natByte (elementCode e), natByte (outcomeCode o).1, natByte (outcomeCode o).2],
        { v with trial := none }) := by
  cases v
  subst henvelope hballot hconfirmed h
  rfl

theorem nextNotice_linkErr {k : LinkError} (henvelope : v.envelope = none) (hballot : v.ballot = none)
    (hconfirmed : v.confirmed = none) (htrial : v.trial = none) (h : v.linkErr = some k) :
    nextNotice r v = ([5#8, natByte (linkErrorCode (some k)), 0#8, 0#8], { v with linkErr := none }) := by
  cases v
  subst henvelope hballot hconfirmed htrial h
  rfl

theorem nextNotice_empty (h : v = NoticeSet.empty) :
    nextNotice r v = ([0#8, 0#8, 0#8, 0#8], NoticeSet.empty) := by
  subst h
  rfl

end

theorem lowByte_eq_extract (h : Half) : lowByte h = h.extractLsb' 0 8 := by
  simp [lowByte, BitVec.setWidth_eq_extractLsb']

theorem highByte_eq_extract (h : Half) : highByte h = h.extractLsb' 8 8 := by
  refine BitVec.eq_of_toNat_eq ?_
  simp [highByte]

/-! ### The request -/

/-- A port whose pending set is set to the one that it has is left as it was. -/
theorem onNotices_of_eq {p : Port} {w : NoticeSet} {s : State} (h : (s.ports.get p).notices = w) :
    onNotices p (fun _ => w) s = s := by
  subst h
  exact congrArg (fun ports => { s with ports := ports }) (PerPort.set_get s.ports p)

/-- READ_NOTICE answers the next notice, and leaves the port the set without it. -/
theorem readNotice_of_next {p : Port} {s : State} {bytes : List Byte} {w : NoticeSet}
    (h : nextNotice s.recovery (s.ports.get p).notices = (bytes, w)) :
    readNotice p s = accept bytes (onNotices p (fun _ => w) s) := by
  simp only [readNotice, onNotices, h]

/-- Settles O13: the next notice of the pending set in each case, and the answer of it. -/
theorem readNoticeTakesTheFirstClass : Obligations.ReadNoticeTakesTheFirstClass := by
  unfold Obligations.ReadNoticeTakesTheFirstClass
  intro p s hL r v left
  have hv : (r.ports.get p).notices = v := by simp [r, v]
  have answered : ∀ {bytes w}, nextNotice s.recovery v = (bytes, w) →
      ∃ t, exec (.readNotice p) s = .next t ∧ Answered p 0x15#8 .ok bytes (left w) t := fun h =>
    answered_of_act hL rfl (by simp) rfl (readNotice_of_next (hv ▸ h))
  refine ⟨fun g h => ?envelope, fun e w henvelope h hw => ?ballot, fun e c henvelope hballot h => ?confirmed,
    fun e o henvelope hballot hconfirmed h => ?trial,
    fun k henvelope hballot hconfirmed htrial h => ?linkErr, fun h => ?empty⟩
  case envelope =>
    rw [← lowByte_eq_extract, ← highByte_eq_extract]
    exact answered (nextNotice_envelope _ h)
  case ballot =>
    obtain ⟨t, ht, ha⟩ := answered (nextNotice_ballot s.recovery henvelope h)
    have hwindow : windowLeft s.recovery = w.window := by simp only [windowLeft, hw]
    exact ⟨_, t, ht, ha, rfl, rfl, rfl, (byte_append_halfBytes _).trans (congrArg _ hwindow)⟩
  case confirmed =>
    have hnext := nextNotice_confirmed s.recovery henvelope hballot h
    cases c <;> exact answered hnext
  case trial =>
    have hnext := nextNotice_trial s.recovery henvelope hballot hconfirmed h
    cases o with
    | started slot => cases slot <;> exact answered hnext
    | voided reason => cases reason <;> exact answered hnext
    | _ => exact answered hnext
  case linkErr =>
    have hnext := nextNotice_linkErr s.recovery henvelope hballot hconfirmed htrial h
    cases k <;> exact answered hnext
  case empty =>
    obtain ⟨t, ht, ha⟩ := answered (nextNotice_empty s.recovery h)
    rw [show left NoticeSet.empty = r from onNotices_of_eq (hv.trans h)] at ha
    exact ⟨t, ht, ha⟩

end Sys2Proof.Machine
end

section
/-! READ_STATUS and the bytes of its three pages (O9). -/

namespace Sys2Proof.Machine

/-! ### Page 0 -/

/-- A port's code in the two bits that show it. -/
theorem natByte_portCode (p : Port) : natByte (portCode p) = (BitVec.ofNat 2 (portCode p)).setWidth 8 := by
  cases p <;> rfl

/-- The flags of page 0, with the configuration port above them (Table 11.7). -/
theorem statusFlags_shows (s : State) :
    (statusFlags s).getLsbD 0 = s.table.overflow ∧ (statusFlags s).getLsbD 1 = s.osc.svc ∧
    (statusFlags s).getLsbD 2 = s.osc.arm ∧ (statusFlags s).getLsbD 3 = s.recovery.ballot.isSome ∧
    (statusFlags s).extractLsb' 4 2 = BitVec.ofNat 2 (portCode s.osc.configPort) ∧
    (statusFlags s).extractLsb' 6 2 = 0#2 := by
  rw [statusFlags, natByte_portCode]
  exact codeAboveFlags_shows _ _ _ _ _

/-! ### Page 1 -/

theorem byteAt_replicate_zero (m n : Nat) : byteAt (List.replicate m 0#8) n = 0#8 := by
  rw [byteAt, List.getD_eq_getElem?_getD, List.getElem?_replicate]
  split <;> rfl

theorem statusPage1_of_none {s : State} (h : s.recovery.ballot = none) : statusPage1 s = List.replicate 10 0#8 := by
  simp only [statusPage1, h]

/-- The ten bytes that page 1 shows of an open ballot (R131). -/
def ballotBytes (v : Ballot) : List Byte :=
  [1#8, natByte (elementCode v.element), natByte (portCode v.requester), twoPortSets v.consent v.answered] ++
    uptimeBytes v.openedAt ++ natBytes v.window

theorem statusPage1_of_some {s : State} {v : Ballot} (h : s.recovery.ballot = some v) :
    statusPage1 s = ballotBytes v := by
  simp only [statusPage1, h]
  rfl

theorem length_statusPage1 (s : State) : (statusPage1 s).length = 10 := by
  cases h : s.recovery.ballot with
  | none => rw [statusPage1_of_none h]; rfl
  | some v => rw [statusPage1_of_some h]; rfl

/-! ### Page 2 -/

theorem flagByte_three_shows (f0 f1 f2 : Bool) :
    let b := flagByte [f0, f1, f2]
    b.getLsbD 0 = f0 ∧ b.getLsbD 1 = f1 ∧ b.getLsbD 2 = f2 ∧ b.extractLsb' 3 5 = 0#5 := by
  revert f0 f1 f2
  decide

theorem length_slotBytes (holds : Bool) (slot : Option Trial) : (slotBytes holds slot).length = 10 := by
  cases slot <;> rfl

/-- Where the ten bytes of a slot stand in a payload, they show its trial. -/
theorem showsTrial_of_slotBytes {b : List Byte} {n : Nat} {holds : Bool} {slot : Option Trial}
    (h : ∀ k, k < 10 → byteAt b (n + k) = byteAt (slotBytes holds slot) k) : ShowsTrial b n holds slot := by
  cases slot with
  | none => exact fun k hk => (h k hk).trans (byteAt_replicate_zero 10 k)
  | some x =>
    obtain ⟨hpresent, hsuspended, hholds, hrest⟩ := flagByte_three_shows true (x.state == .suspended) holds
    have h0 : byteAt b n = flagByte [true, x.state == .suspended, holds] := h 0 (by decide)
    have h1 : byteAt b (n + 1) = natByte (elementCode x.element) := h 1 (by decide)
    have hstarted : word32At b (n + 2) = x.startedAt := by
      rw [word32At, h 5 (by decide), h 4 (by decide), h 3 (by decide), h 2 (by decide)]
      exact byte_append_uptimeBytes _
    have hduration : word16At b (n + 6) = BitVec.ofNat 16 x.duration := by
      rw [word16At, h 7 (by decide), h 6 (by decide)]
      exact byte_append_halfBytes _
    have hremaining : word16At b (n + 8) = BitVec.ofNat 16 x.remaining := by
      rw [word16At, h 9 (by decide), h 8 (by decide)]
      exact byte_append_halfBytes _
    unfold ShowsTrial
    rw [h0]
    exact ⟨hpresent, hsuspended, hholds, hrest, h1, hstarted, hduration, hremaining⟩

theorem length_statusPage2 (s : State) : (statusPage2 s).length = 20 := by
  rw [statusPage2, List.length_append, length_slotBytes, length_slotBytes]

/-- Page 2 shows PRIMARY in its first ten bytes and NESTED in its last ten. -/
theorem statusPage2_shows (s : State) :
    ShowsTrial (statusPage2 s) 0 (primaryHolds s) s.recovery.primary ∧
    ShowsTrial (statusPage2 s) 10 false s.recovery.nested := by
  have hlength := length_slotBytes (primaryHolds s) s.recovery.primary
  refine ⟨showsTrial_of_slotBytes fun k hk => ?_, showsTrial_of_slotBytes fun k _ => ?_⟩
  · rw [Nat.zero_add]
    exact List.getD_append _ _ _ _ (hlength ▸ hk)
  · refine (List.getD_append_right _ _ _ _ (hlength ▸ Nat.le_add_right 10 k)).trans ?_
    rw [hlength, Nat.add_sub_cancel_left]
    rfl

/-- The suspension bit of PRIMARY is the condition of Table 8.4 (R148). -/
theorem primaryHolds_iff {s : State} {x : Trial} (h : s.recovery.primary = some x) :
    primaryHolds s = true ↔ Suspends (elementGroup x.element) s.unit.envelope := by
  simp only [primaryHolds, h]
  exact suspensionHolds_iff _ _

/-! ### The request -/

theorem readStatus_of_gt {page : Byte} (h : 2 < page.toNat) (p : Port) (s : State) :
    readStatus p page s = refuse .range s := by
  unfold readStatus
  split
  case h_4 => rfl
  all_goals omega

/-- Settles O9: each page by the lemmas about its bytes, and RANGE above them. -/
theorem readStatusShowsThePart : Obligations.ReadStatusShowsThePart := by
  unfold Obligations.ReadStatusShowsThePart
  intro p page s hL r
  have answered : ∀ {b : List Byte}, readStatus p page r = accept b r →
      ∃ t, exec (.readStatus p page) s = .next t ∧ Answered p 0x10#8 .ok b r t := fun h =>
    answered_of_act hL rfl (by simp) rfl h
  refine ⟨?page0, ?page1, ?page2, fun h => answered_of_act hL rfl (by simp) rfl (readStatus_of_gt h p r)⟩
  case page0 =>
    rintro rfl
    obtain ⟨t, ht, ha⟩ := answered (b := statusPage0 p r) rfl
    obtain ⟨f0, f1, f2, f3, f4, f6⟩ := statusFlags_shows r
    obtain ⟨o0, o1, o2, o3, o4⟩ := flagByte_four_shows r.permit.outputs.frontEn r.permit.outputs.rearEn
      r.permit.outputs.regenEn r.permit.outputs.packTrip
    refine ⟨_, t, ht, ha, rfl, byte_append_uptimeBytes _, rfl, f0, f1, f2, f3, f4, f6, nibbles_low _ _, ?enteredFrom,
      byte_append_uptimeBytes _, byte_append_halfBytes _, rfl, o0, o1, o2, o3, o4⟩
    refine (nibbles_high _ _).trans ?_
    cases r.osc.cause.enteredFrom <;> rfl
  case page1 =>
    rintro rfl
    obtain ⟨t, ht, ha⟩ := answered (b := statusPage1 r) rfl
    refine ⟨_, t, ht, ha, length_statusPage1 r, fun hnone n _ => ?none, fun v hsome => ?some⟩
    case none =>
      rw [statusPage1_of_none hnone]
      exact byteAt_replicate_zero 10 n
    case some =>
      rw [statusPage1_of_some hsome]
      obtain ⟨hconsent, hanswered⟩ := twoPortSets_shows v.consent v.answered
      exact ⟨rfl, rfl, rfl, hconsent, hanswered, byte_append_uptimeBytes _, byte_append_halfBytes _⟩
  case page2 =>
    rintro rfl
    obtain ⟨t, ht, ha⟩ := answered (b := statusPage2 r) rfl
    obtain ⟨hprimary, hnested⟩ := statusPage2_shows r
    exact ⟨_, t, primaryHolds r, ht, ha, length_statusPage2 r, hprimary, hnested, fun v hv => primaryHolds_iff hv⟩

end Sys2Proof.Machine
end

section
/-! The queue: a step takes the command at its front (O1), and every command answers a next state with the queue as it
was (O2). -/

namespace Sys2Proof.Machine

/-- Settles O1: both halves are what `step` is defined to be. -/
theorem stepTakesTheFrontCommand : Obligations.StepTakesTheFrontCommand := by
  unfold Obligations.StepTakesTheFrontCommand
  exact ⟨fun _ _ _ => rfl, fun _ => rfl⟩

/-! ### Requests -/

/-- The link port's own moves leave the queue alone (R173 to R176). -/
theorem queueMoves : LinkMoves fun s t => t.pending = s.pending where
  refl _ := rfl
  trans h k := k.trans h
  port := setPort_pending
  disarm := disarmFrom_pending
  report _ := handReport_pending _

theorem checkIn_pending (p : Port) (s : State) : (checkIn p s).state.pending = s.pending := by
  unfold checkIn
  split_ifs <;> rfl

theorem report_pending (p : Port) (e c : Byte) (detail : Option Half) (s : State) :
    (report p e c detail s).state.pending = s.pending := by
  rcases report_state p e c detail s with h | ⟨_, _, h⟩ <;> simp [h]

theorem setFloor_pending (p : Port) (profile : Byte) (s : State) :
    (setFloor p profile s).state.pending = s.pending := by
  rcases setFloor_state p profile s with h | ⟨_, h⟩ <;> simp [h]

theorem adopt_pending (p : Port) (generation : Half) (s : State) :
    (adopt p generation s).state.pending = s.pending := by
  rcases adopt_state p generation s with h | ⟨_, _, h⟩ <;> simp [h]

@[simp] theorem passBallot_pending (b : Ballot) (s : State) : (passBallot b s).state.pending = s.pending := by
  unfold passBallot
  split <;> simp [accept]

@[simp] theorem postBallot_pending (asked : PortSet) (e : Element) (s : State) :
    (postBallot asked e s).pending = s.pending :=
  foldl_frame _ State.pending (fun p => onNotices_pending p _) _ s

theorem openBallot_pending (p : Port) (e : Element) (s : State) : (openBallot p e s).state.pending = s.pending := by
  unfold openBallot
  dsimp only
  split <;> simp [accept]

theorem release_pending (p : Port) (element : Byte) (s : State) : (release p element s).state.pending = s.pending := by
  rcases release_state p element s with h | ⟨e, h⟩ <;> rw [h]
  exact openBallot_pending p e s

theorem answerBallot_pending (p : Port) (b : Ballot) (s : State) :
    (answerBallot p b s).state.pending = s.pending := by
  unfold answerBallot
  split
  · rfl
  · dsimp only
    split <;> simp [accept]

theorem consent_pending (p : Port) (element : Byte) (s : State) : (consent p element s).state.pending = s.pending := by
  unfold consent
  split
  · rfl
  · exact answerBallot_pending p _ s

theorem veto_pending (p : Port) (element : Byte) (s : State) : (veto p element s).state.pending = s.pending := by
  unfold veto
  split
  · rfl
  · exact closeBallot_pending (some .vetoed) s

theorem acceptStart_pending (p : Port) (s : State) : (acceptStart p s).pending = s.pending := by
  unfold acceptStart
  dsimp only
  split_ifs <;> simp

theorem start_pending (p : Port) (named : Half) (s : State) : (start p named s).state.pending = s.pending := by
  rcases start_state p named s with h | h <;> rw [h]
  exact acceptStart_pending p s

theorem acceptWrite_pending (k : Sect) (n : Nat) (entry : List Byte) (s : State) :
    (acceptWrite k n entry s).pending = s.pending := by
  unfold acceptWrite afterWrite
  split
  · split <;> rfl
  all_goals simp

theorem writeConfig_pending (p : Port) (k n : Byte) (entry : List Byte) (s : State) :
    (writeConfig p k n entry s).state.pending = s.pending := by
  rcases writeConfig_state p k n entry s with h | ⟨k', n', -, -, h⟩ <;> rw [h]
  exact acceptWrite_pending k' n' entry s

theorem serviceArm_pending (p : Port) (s : State) : (serviceArm p s).state.pending = s.pending := by
  rcases serviceArm_state p s with h | h <;> simp [h]

theorem serviceClear_pending (p : Port) (which : Byte) (s : State) :
    (serviceClear p which s).state.pending = s.pending := by
  rcases serviceClear_state p which s with h | ⟨_, h⟩ <;> simp [h, unlockEntries_eq]

/-! ### The timers and the samples -/

/-- An event that takes place only sometimes leaves the queue alone, if it does so where it takes place. -/
theorem pending_ite {taken : Prop} [Decidable taken] {s t : State} (h : t.pending = s.pending) :
    (if taken then t else s).pending = s.pending := by
  split
  · exact h
  · rfl

theorem takeDecay_pending (e : Element) (c : FaultClass) (x : FaultRecord) (s : State) :
    (takeDecay e c x s).pending = s.pending := by
  unfold takeDecay
  dsimp only
  split <;> rfl

theorem decayExpiry_pending (e : Element) (c : FaultClass) (s : State) : (decayExpiry e c s).pending = s.pending := by
  unfold decayExpiry
  split
  · rfl
  · exact pending_ite (takeDecay_pending e c _ s)

theorem checkInDeadlineExpiry_pending (p : Port) (s : State) : (checkInDeadlineExpiry p s).pending = s.pending :=
  pending_ite (by simp)

theorem dwellExpiry_pending (s : State) : (dwellExpiry s).pending = s.pending :=
  pending_ite (by simp)

@[simp] theorem restartAdoption_pending (d : DrivePort) (s : State) : (restartAdoption d s).pending = s.pending := by
  unfold restartAdoption
  dsimp only
  split <;> simp

theorem adoptionDeadlineExpiry_pending (d : DrivePort) (s : State) :
    (adoptionDeadlineExpiry d s).pending = s.pending :=
  pending_ite (by simp)

theorem ballotWindowExpiry_pending (s : State) : (ballotWindowExpiry s).pending = s.pending := by
  unfold ballotWindowExpiry
  split
  · rfl
  · exact pending_ite (closeBallot_pending _ s)

theorem trialExpiry_pending (slot : TrialSlot) (s : State) : (trialExpiry slot s).pending = s.pending := by
  unfold trialExpiry
  split
  · rfl
  · exact pending_ite (passTrial_pending slot _ s)

theorem startWindowExpiry_pending (s : State) : (startWindowExpiry s).pending = s.pending :=
  pending_ite (by simp)

theorem integrityCheckExpiry_pending (s : State) : (integrityCheckExpiry s).pending = s.pending := by
  refine pending_ite ?_
  unfold checkIntegrity
  split <;> simp

theorem sampleLine_pending (l : FaultLine) (high : Bool) (s : State) : (sampleLine l high s).pending = s.pending := by
  refine pending_ite ?_
  split
  · unfold sampleLevel
    dsimp only
    split <;> simp
  · unfold sampleEdge
    dsimp only
    split
    · rfl
    · split <;> simp

theorem sampleReadback_pending (first : DrivePort) (v : Readback) (s : State) :
    (sampleReadback first v s).pending = s.pending := by
  have counted : (countMismatches v s).pending = s.pending := by simp [countMismatches]
  rcases sampleReadback_cases first v s with h | ⟨d, -, h⟩ <;> simp [h, counted]

theorem tick_pending (s : State) : (tick s).pending = s.pending := by
  unfold tick
  split <;> rfl

theorem corruptImage_pending (n : Nat) (b : Byte) (s : State) : (corruptImage n b s).pending = s.pending :=
  pending_ite rfl

/-! ### Every command -/

/-- No command faults and none is refused. -/
theorem exec_answers_next (i : Instr) (s : State) : ∃ t, exec i s = .next t := by
  cases i <;> exact ⟨_, rfl⟩

/-- Every command leaves the queue alone. -/
theorem exec_pending {i : Instr} {s t : State} (h : exec i s = .next t) : t.pending = s.pending := by
  have request : ∀ {p : Port} {code : Byte} {payload : List Byte} {disarms : Bool} {act : State → Taken},
      (∀ u, (act u).state.pending = u.pending) → (takeRequest p code payload disarms act s).pending = s.pending :=
    fun h => queueMoves.takeRequest h s
  have reads : ∀ {p : Port} {code : Byte} {payload : List Byte} {disarms : Bool} {act : State → Taken},
      (∀ u, (act u).state = u) → (takeRequest p code payload disarms act s).pending = s.pending :=
    fun h => request fun u => congrArg State.pending (h u)
  have event : ∀ {f : State → State}, (f s).pending = s.pending → (unlessHeld f s).pending = s.pending :=
    fun h => queueMoves.unlessHeld s h
  cases i <;> obtain rfl := Host.Outcome.next.inj h
  case readStatus p page => exact reads (readStatus_state p page)
  case readEnvelope p => exact reads fun _ => rfl
  case readElement p n => exact reads (readElement_state n)
  case readFault p n => exact reads (readFault_state n)
  case readRetained p n => exact reads (readRetained_state n)
  case readNotice p => exact request fun _ => rfl
  case readConfig p k n => exact reads (readConfig_state k n)
  case checkIn p => exact request (checkIn_pending p)
  case report p e c detail => exact request (report_pending p e c detail)
  case setFloor p profile => exact request (setFloor_pending p profile)
  case adopt p generation => exact request (adopt_pending p generation)
  case release p element => exact request (release_pending p element)
  case consent p element => exact request (consent_pending p element)
  case veto p element => exact request (veto_pending p element)
  case start p named => exact request (start_pending p named)
  case writeConfig p k n entry => exact request (writeConfig_pending p k n entry)
  case serviceArm p => exact request (serviceArm_pending p)
  case serviceClear p which => exact request (serviceClear_pending p which)
  case unknownRequest p code payload => exact queueMoves.unknownRequest p code payload s
  case frameDiscard p kind => exact event (queueMoves.frameDiscard p kind s)
  case gapDiscard p => exact event (queueMoves.gapDiscard p s)
  case replyComplete p => exact event (queueMoves.endReply p s)
  case frameStart p b => exact event (queueMoves.startFrame p b s)
  case powerOnReset c1 c0 => rfl
  case keyCycleReset => exact event rfl
  case resetEnd => exact pending_ite rfl
  case decayExpiry e c => exact event (decayExpiry_pending e c s)
  case checkInDeadlineExpiry p => exact event (checkInDeadlineExpiry_pending p s)
  case dwellExpiry => exact event (dwellExpiry_pending s)
  case adoptionDeadlineExpiry d => exact event (adoptionDeadlineExpiry_pending d s)
  case ballotWindowExpiry => exact event (ballotWindowExpiry_pending s)
  case trialExpiry slot => exact event (trialExpiry_pending slot s)
  case startWindowExpiry => exact event (startWindowExpiry_pending s)
  case integrityCheckExpiry => exact event (integrityCheckExpiry_pending s)
  case lineQualify l => exact event (pending_ite (sampleLine_pending l _ s))
  case lineUnqualify l => exact event (pending_ite (sampleLine_pending l _ s))
  case lineEdge l => exact event (pending_ite (sampleLine_pending l _ s))
  case readbackMismatch m => exact event (pending_ite (sampleReadback_pending _ _ s))
  case svcDeasserted => exact event rfl
  case lineSample l high => exact event (sampleLine_pending l high s)
  case readbackSample first levels => exact event (sampleReadback_pending first levels s)
  case svcAsserted => exact event rfl
  case millisecondTick => exact event (tick_pending s)
  case configurationImageCorruption k b => exact event (corruptImage_pending k.val b s)

/-- Settles O2: `exec` has an answer for each command, and that answer leaves the queue alone. -/
theorem everyCommandAnswersANextState : Obligations.EveryCommandAnswersANextState := by
  unfold Obligations.EveryCommandAnswersANextState
  intro c s
  obtain ⟨t, ht⟩ := exec_answers_next c s
  exact ⟨t, ht, exec_pending ht⟩

end Sys2Proof.Machine
end
